-- ==== Sys2Proof/Word.lean ====
section
/-! DEFINITION. The word type of the block and its plainest arithmetic: every register and every command word is 32 bits
wide (00_scope.md R15), and every quantity is unsigned (R18). -/

namespace Sys2Proof

/-- A register or a command word (R15). -/
abbrev Word := BitVec 32

/-- The 8-bit code of a control token (30_encoding.md R74). -/
abbrev Byte := BitVec 8

/-- A channel-enable mask: bit i enables ADC channel i (R8, R28). -/
abbrev ChMask := BitVec 8

/-- `zext_32` of the low `n` bits of a word (R17): what an `n`-bit value held in a 32-bit container stands for. -/
def lowBits (n : Nat) (w : Word) : Word := (w.setWidth n).setWidth 32

end Sys2Proof
end

