-- ==== Sys2Proof/Config.lean ====
section
/-! DEFINITION. What an implementation fixes (00_scope.md R8 to R14), the agents and turns of a schedule (R7), and the free
values the spec leaves open. A constant with no body is a free value: nothing can be proved of which value it is. -/

namespace Sys2Proof

/-- The two host agents (00_scope.md R7). -/
inductive HostAgent where
  | ctrlHost
  | rdHost
deriving DecidableEq, Repr, Inhabited

/-- The five agents of R7; any enabled one may take the next step. -/
inductive Agent where
  | host (h : HostAgent)
  | ctrlSeq
  | conv
  | reader
deriving DecidableEq, Repr, Inhabited

/-- What one step of the model is given to: an agent's turn, or the reset of the tile (70_reset_and_hazards.md R135). -/
inductive Turn where
  | agent (a : Agent)
  | tileReset
deriving DecidableEq, Repr, Inhabited

/-- The parameters a model takes (R12, R13, R14). They are not state of the block (R24) and no step changes them; they stand
in `State` so that a statement about every state holds for every value of them. DESIGN CHOICE (log entry 3), safe. -/
structure Params where
  /-- ADC_RES, the width of a raw conversion, 1 to 32 (R12). -/
  adcRes : Nat
  /-- END_CODE, the code of the boundary token (R13). -/
  endCode : Byte
  /-- ADC_BASE, the bus address of the register window, a multiple of 64 (R14). -/
  adcBase : Nat
deriving DecidableEq, Repr

namespace Config

/-- NUM_CH (R8). -/
abbrev numCh : Nat := 8

/-- MAX_SPP (R9). -/
abbrev maxSpp : Nat := 5

/-- BUF_DEPTH (R9). -/
abbrev bufDepth : Nat := 5

/-- CAL_PULSES (R10). -/
abbrev calPulses : Nat := 6

/-- The parameters of `State.reset`: ADC_RES = 12 and END_CODE = 0x01 are the spec's defaults, which it marks as general
knowledge (R12, R13). PRESUMED (log entries 1 and 2), unsafe. ADC_BASE is OPEN (R14): 0 is a DESIGN CHOICE (log entry 3), unsafe. -/
def defaultParams : Params := { adcRes := 12, endCode := 0x01#8, adcBase := 0 }

/-- `draw_sample(ch)` (R21, R102): the value the analog side presents for channel `ch` at the `n`-th draw that no named draw
settles. A free value, DESIGN CHOICE of form (log entry 5), safe. -/
opaque drawSample (ch : BitVec 3) (n : Nat) : Word

/-- Which turn comes at the `n`-th step that no named turn settles (R7: the interleaving is free). A free value,
DESIGN CHOICE of form (log entry 4), safe. -/
opaque freeTurn (n : Nat) : Turn

/-- `W(2)`: the spec defines W only for the codes 0, 1 and 3 (R11, R67). A free value, reached by no run (log entry 9), safe. -/
opaque reservedWidth : Nat

/-- `lowest_set(0)`: the spec defines it only for a nonzero mask (R21). A free value, reached by no run (log entry 9), safe. -/
opaque lowestOfEmptyMask : BitVec 3

end Config
end Sys2Proof
end

