-- ==== Sys2Proof/Syntax.lean ====
section
/-! DEFINITION. Syntax: the seven commands (30_encoding.md R68), the wire items of the token FIFO (R74), the registers of the
window (20_memory.md R50), the bus accesses of a host (R19) and the assembler's lines (R77). -/

namespace Sys2Proof

/-- The two command ports (R64). -/
inductive Port where
  | ctrl
  | rd
deriving DecidableEq, Repr

/-- The commands, one constructor per row of the opcode table. ENABLE carries the operands of R67: the channel mask, the
bits-per-sample code, the samples per packet (a count, 0 to 7 as encoded) and the calibration mode. -/
inductive Instr where
  | enable (chEn : ChMask) (bps : BitVec 2) (spp : Nat) (cal : Bool)
  | disableAll
  | trigger
  | triggerPacket
  | read
  | readPacket
  | tryRead
deriving DecidableEq, Repr

/-- A wire item (R74). `data w` holds a W-bit data word in a 32-bit container; `ctrl code` is a control token. -/
inductive WireItem where
  | data (w : Word)
  | ctrl (code : Byte)
deriving DecidableEq, Repr

/-- The sixteen word slots of the window (20_memory.md R50). -/
inductive Register where
  | ctrlCmd
  | rdCmd
  | status
  | config
  | fault
  | faultCmd
  | sample
  | pulseCount
  | pktBuf (i : Fin 5)
  | reserved (k : Fin 3)
deriving DecidableEq, Repr

/-- A bus access of a host agent (R19). `read` is MemRead, `write` is MemWrite, and `poll` is a MemRead repeated until the
value read, masked, is `want` (the repeat and wait lines of R78). A width is in bytes. -/
inductive Access where
  | read (width addr : Nat)
  | write (width addr : Nat) (v : Word)
  | poll (width addr : Nat) (mask want : Word)
deriving DecidableEq, Repr

/-- A line of a host program without control flow (R77): a command mnemonic with its operands, a raw form, or a register
access by name. -/
inductive AsmLine where
  | enable (ch bps spp cal : Nat)
  | disableAll
  | trigger
  | triggerPacket
  | read
  | readPacket
  | tryRead
  | rawCtrl (w : Word)
  | rawRd (w : Word)
  | writeReg (r : Register) (w : Word)
  | readReg (r : Register)
deriving DecidableEq, Repr

end Sys2Proof
end

