-- ==== Sys2Proof/WellFormed.lean ====
section
/-! DEFINITION. Which commands and wire items the encodings can carry (30_encoding.md R65, R74, R77). -/

namespace Sys2Proof

/-- A command whose operands fit their fields: SPP is a 3-bit field (R65), and an assembler refuses `n > 7` (R77). The other
operands fit by their type. -/
def Instr.wellFormed : Instr → Bool
  | .enable _ _ spp _ => decide (spp < 8)
  | .disableAll => true
  | .trigger => true
  | .triggerPacket => true
  | .read => true
  | .readPacket => true
  | .tryRead => true

/-- A wire item whose payload fits the data-word width `w` in force (R74, R76). -/
def WireItem.wellFormed (w : Nat) : WireItem → Bool
  | .data d => decide (d.toNat < 2 ^ w)
  | .ctrl _ => true

/-- The parameters' legal values: 1 ≤ ADC_RES ≤ 32 (00_scope.md R12), ADC_BASE a multiple of 64 (R14). -/
def Params.wellFormed (p : Params) : Bool :=
  decide (1 ≤ p.adcRes) && decide (p.adcRes ≤ 32) && decide (p.adcBase % 64 = 0)

end Sys2Proof
end

