-- ==== Sys2Proof/Decode.lean ====
section
/-! DEFINITION. The command decoder and encoder (30_encoding.md R64 to R73) and the tagged form of wire items (R74). -/

namespace Sys2Proof

/-- The seven legal values of OP, by name (R68). -/
inductive Opcode where
  | enable
  | disableAll
  | trigger
  | triggerPacket
  | read
  | readPacket
  | tryRead
deriving DecidableEq, Repr

/-- Why a word is no command of a port: R69, R70 and R71, in the order they are checked. -/
inductive DecodeError where
  | reservedOp
  | wrongPort
  | reservedBits
deriving DecidableEq, Repr

/-- The opcode map (R68); `none` is a reserved value (R69). -/
def opcodeOfBits (op : BitVec 4) : Option Opcode :=
  if op = 0x1#4 then some .enable
  else if op = 0x2#4 then some .disableAll
  else if op = 0x3#4 then some .trigger
  else if op = 0x4#4 then some .triggerPacket
  else if op = 0x8#4 then some .read
  else if op = 0x9#4 then some .readPacket
  else if op = 0xA#4 then some .tryRead
  else none

/-- The OP field of each command (R68). -/
def opcodeBits : Opcode → BitVec 4
  | .enable => 0x1#4
  | .disableAll => 0x2#4
  | .trigger => 0x3#4
  | .triggerPacket => 0x4#4
  | .read => 0x8#4
  | .readPacket => 0x9#4
  | .tryRead => 0xA#4

/-- Bit 3 of OP selects the port (R64). -/
def portOfWord (v : Word) : Port := if v.getLsbD 3 then .rd else .ctrl

/-- The port each command is written to (R68). -/
def opcodePort : Opcode → Port
  | .enable => .ctrl
  | .disableAll => .ctrl
  | .trigger => .ctrl
  | .triggerPacket => .ctrl
  | .read => .rd
  | .readPacket => .rd
  | .tryRead => .rd

/-- The bits that must be zero: the reserved fields of format CFG (R65), bits 31:4 of format BARE (R66). -/
def reservedMask : Opcode → Word
  | .enable => 0xFE8C00F0#32
  | .disableAll => 0xFFFFFFF0#32
  | .trigger => 0xFFFFFFF0#32
  | .triggerPacket => 0xFFFFFFF0#32
  | .read => 0xFFFFFFF0#32
  | .readPacket => 0xFFFFFFF0#32
  | .tryRead => 0xFFFFFFF0#32

/-- The OP field, v[3:0] (R64). -/
def opField (v : Word) : BitVec 4 := v.extractLsb' 0 4

/-- `v[15:8]` (R65, R67). -/
def chEnField (v : Word) : ChMask := v.extractLsb' 8 8

/-- `v[17:16]` (R65, R67). -/
def bpsField (v : Word) : BitVec 2 := v.extractLsb' 16 2

/-- `v[22:20]` (R65, R67). -/
def sppField (v : Word) : Nat := (v.extractLsb' 20 3).toNat

/-- `v[24]` (R65, R67). -/
def calField (v : Word) : Bool := v.getLsbD 24

/-- Operand assembly (R67): ENABLE's operands are fields of the word, the BARE commands have none (R66). -/
def assembleOperands (o : Opcode) (v : Word) : Instr :=
  match o with
  | .enable => .enable (chEnField v) (bpsField v) (sppField v) (calField v)
  | .disableAll => .disableAll
  | .trigger => .trigger
  | .triggerPacket => .triggerPacket
  | .read => .read
  | .readPacket => .readPacket
  | .tryRead => .tryRead

/-- The decoder of a port: the checks of R72 and R73 in their order (reserved opcode, wrong port, reserved bits), then the
operands. -/
def decode (p : Port) (v : Word) : Except DecodeError Instr :=
  match opcodeOfBits (opField v) with
  | none => .error .reservedOp
  | some o =>
    if opcodePort o ≠ p then .error .wrongPort
    else if v &&& reservedMask o ≠ 0#32 then .error .reservedBits
    else .ok (assembleOperands o v)

/-- A field's value at the bit position its layout gives it, in a word whose other bits are zero. -/
def placeField (n pos : Nat) (v : BitVec n) : Word := v.setWidth 32 <<< pos

/-- The command word of format CFG (R65): `0x1 | mask<<8 | code<<16 | n<<20 | cal<<24` (R77). -/
def encodeEnable (chEn : ChMask) (bps : BitVec 2) (spp : Nat) (cal : Bool) : Word :=
  placeField 4 0 (opcodeBits .enable) ||| placeField 8 8 chEn ||| placeField 2 16 bps
    ||| placeField 3 20 (BitVec.ofNat 3 spp) ||| placeField 1 24 (BitVec.ofBool cal)

/-- The command word of format BARE (R66). -/
def encodeBare (o : Opcode) : Word := placeField 4 0 (opcodeBits o)

/-- The command word of an instruction (R65, R66, R68). -/
def encode : Instr → Word
  | .enable chEn bps spp cal => encodeEnable chEn bps spp cal
  | .disableAll => encodeBare .disableAll
  | .trigger => encodeBare .trigger
  | .triggerPacket => encodeBare .triggerPacket
  | .read => encodeBare .read
  | .readPacket => encodeBare .readPacket
  | .tryRead => encodeBare .tryRead

/-- The opcode of an instruction (R68). -/
def opcodeOf : Instr → Opcode
  | .enable _ _ _ _ => .enable
  | .disableAll => .disableAll
  | .trigger => .trigger
  | .triggerPacket => .triggerPacket
  | .read => .read
  | .readPacket => .readPacket
  | .tryRead => .tryRead

/-- The port an instruction is written to (R68). -/
def portOf (i : Instr) : Port := opcodePort (opcodeOf i)

/-- The word whose low `nbits` bits are those of `w` and whose other bits are zero. -/
def tableWord (nbits w : Nat) : Word := BitVec.ofNat 32 (w % 2 ^ nbits)

/-- What the decoder reads from a table row's word on the port that bit 3 selects. Every command is one 32-bit word (R64) and
crosses the bus whole, so no byte order arises (20_memory.md R56). -/
def decodeTableWord (nbits w : Nat) : Option Instr :=
  if 32 < nbits then none
  else (decode (portOfWord (tableWord nbits w)) (tableWord nbits w)).toOption

/-- The bits of a word from bit `n - 1` down to bit 0. -/
def bitsDown (n : Nat) (w : Word) : List Bool := (List.range n).map fun k => w.getLsbD (n - 1 - k)

/-- The value of a list of bits, the highest first. -/
def bitsValue (bs : List Bool) : Nat := bs.foldl (fun acc b => 2 * acc + b.toNat) 0

/-- A wire item as a tagged value: the control flag, then W payload bits or the 8 code bits (R74). -/
def tagItem (w : Nat) : WireItem → List Bool
  | .data d => false :: bitsDown w d
  | .ctrl code => true :: bitsDown 8 (code.setWidth 32)

/-- The wire item of a tagged value, with W taken from outside: the item carries no length prefix (R74, R76). -/
def untagItem (w : Nat) : List Bool → Option WireItem
  | false :: payload => if payload.length = w then some (.data (BitVec.ofNat 32 (bitsValue payload))) else none
  | true :: code => if code.length = 8 then some (.ctrl (BitVec.ofNat 8 (bitsValue code))) else none
  | [] => none

end Sys2Proof
end

