-- ==== Sys2Proof/Machine/State.lean ====
section
/-! DEFINITION. The machine's state: every element of 10_state.md R23 under its own name, and beside them the model's own
fields (the parameters, the event history of R48, and the environment of R24). `State.reset` is 10_state.md R23 with
70_reset_and_hazards.md R135 and R136. -/

namespace Sys2Proof.Machine

/-- CTRL_OP (R37). -/
inductive CtrlOp where
  | none
  | triggerPacket
deriving DecidableEq, Repr

/-- RD_OP (R38). -/
inductive RdOp where
  | none
  | read
  | readPacket
deriving DecidableEq, Repr

/-- The two kinds of trigger pulse (R21, R91). -/
inductive PulseKind where
  | cal
  | sample
deriving DecidableEq, Repr

/-- The fault causes of 60_exceptions.md R119. These are the BLOCK's faults: raising one is a next state (R122). -/
inductive Cause where
  | cmdReservedOp
  | cmdWrongPort
  | cmdReservedBits
  | cfgBps
  | cfgSpp
  | seqNotEnabled
  | seqBusy
  | overrun
  | protoCtrlInData
  | protoDataAtTrailer
  | protoMisaligned
deriving DecidableEq, Repr

/-- Where a value is delivered (R48). -/
inductive Dest where
  | sample
  | pktBuf (i : Nat)
deriving DecidableEq, Repr

/-- The events of the history (R48). -/
inductive Event where
  | accept (p : Port) (word : Word)
  | drop (p : Port) (word : Word)
  | pulse (kind : PulseKind)
  | push (x : WireItem)
  | pop (x : WireItem)
  | deliver (dest : Dest) (value : Word)
  | fault (c : Cause)
deriving DecidableEq, Repr

/-- A host agent as the block sees it: the accesses it has still to perform, in its program order (20_memory.md R58), and what
its last MemRead returned. The model's own field (R24, R26). -/
structure HostState where
  todo : List Access
  lastRead : Option Word
deriving DecidableEq, Repr

/-- What is outside the block (R24): the hosts, the schedule and the analog inputs. `turns` and `draws` are named choices, used
first; after them the free values of `Config` are used, at the positions `turnIdx` and `drawIdx`. -/
structure Env where
  ctrlHost : HostState
  rdHost : HostState
  turns : List Turn
  turnIdx : Nat
  draws : List Word
  drawIdx : Nat
deriving DecidableEq, Repr

/-- The state. The fields from `enabled` to `trig` are the block's state, "and nothing else" (10_state.md R23). -/
structure State where
  /-- ENABLED (R27). -/
  enabled : Bool
  /-- CONFIG (R28). -/
  config : Word
  /-- CHPTR (R30). -/
  chptr : BitVec 3
  /-- PKTCNT (R31). -/
  pktcnt : BitVec 3
  /-- PEND (R32). -/
  pend : BitVec 3
  /-- FIFO, the oldest item first (R33). -/
  fifo : List WireItem
  /-- CTRL_BUSY (R37). -/
  ctrlBusy : Bool
  /-- CTRL_OP (R37). -/
  ctrlOp : CtrlOp
  /-- CTRL_WORD (R37). -/
  ctrlWord : Word
  /-- TP_REM (R37). -/
  tpRem : BitVec 3
  /-- RD_BUSY (R38). -/
  rdBusy : Bool
  /-- RD_OP (R38). -/
  rdOp : RdOp
  /-- RD_WORD (R38). -/
  rdWord : Word
  /-- RD_IDX (R38). -/
  rdIdx : BitVec 3
  /-- RD_POS (R40). -/
  rdPos : BitVec 3
  /-- SAMPLE (R42). -/
  sample : Word
  /-- RD_VALID (R42). -/
  rdValid : Bool
  /-- PKT_BUF[0..4] (R43). -/
  pktBuf : Vector Word 5
  /-- PULSE_COUNT (R44). -/
  pulseCount : Word
  /-- FAULT (R45). -/
  fault : Word
  /-- FAULT_CMD (R45). -/
  faultCmd : Word
  /-- TRIG, the output level (R46). -/
  trig : Bool
  /-- The event history, the newest event first (R48). The model's own field. -/
  history : List Event
  /-- The parameters (R12 to R14). The model's own field. -/
  params : Params
  /-- The environment (R24). The model's own field. -/
  env : Env
deriving DecidableEq, Repr

/-- Why a run of the machine ends in a fault. A fault of the BLOCK is none of these: it is a next state (R122). -/
inductive Fault where
  /-- Raised by a host agent's turn whose access has another width than 32 bits, is not aligned, or lies outside the window
  (20_memory.md R55): "a fault of the issuing host agent", which ends the run. Safe: the spec asks for it. -/
  | busError (h : HostAgent) (addr : Nat)
deriving DecidableEq, Repr

/-- Why an instruction has no meaning. -/
inductive Refusal where
  /-- Answered by an arm of `exec` whose instruction is not modelled yet; no arm is one. Safe. -/
  | notModelled (mnemonic : String)
deriving DecidableEq, Repr

/-- A host agent with nothing to do, before any read. -/
def HostState.idle : HostState := { todo := [], lastRead := none }

/-- The environment of `State.reset`: nothing named, everything free. DESIGN CHOICE (log entries 4, 5 and 6), safe. -/
def Env.start : Env :=
  { ctrlHost := HostState.idle, rdHost := HostState.idle, turns := [], turnIdx := 0, draws := [], drawIdx := 0 }

/-- The machine after reset: every element at the value of 10_state.md R23 (R135, R136), an empty history, the parameters'
defaults. -/
def State.reset : State :=
  { enabled := false, config := 0#32, chptr := 0#3, pktcnt := 0#3, pend := 0#3, fifo := []
    ctrlBusy := false, ctrlOp := .none, ctrlWord := 0#32, tpRem := 0#3
    rdBusy := false, rdOp := .none, rdWord := 0#32, rdIdx := 0#3, rdPos := 0#3
    sample := 0#32, rdValid := false, pktBuf := Vector.replicate 5 0#32
    pulseCount := 0#32, fault := 0#32, faultCmd := 0#32, trig := false
    history := [], params := Config.defaultParams, env := Env.start }

end Sys2Proof.Machine
end

