-- ==== Sys2Proof/Machine/Ops.lean ====
section
/-! DEFINITION. The named operations over the state: channel masks, the fields of CONFIG, the token FIFO, the event history, the
trigger pulse, fault entry (60_exceptions.md R122, the one shared operation that takes the block's exception), the dropped
command, and the tile reset (the only way back from a fault, R125). -/

namespace Sys2Proof.Machine

/-! ## Channel masks (00_scope.md R16, R21) -/

/-- The indices of the set bits of a mask, ascending. -/
def enabledChannels (m : ChMask) : List Nat := (List.range Config.numCh).filter fun i => m.getLsbD i

/-- `popcount` of a mask (R17); the channel count C of R16. -/
def popcount (m : ChMask) : Nat := (enabledChannels m).length

/-- `lowest_set` (R21); of the empty mask it is a free value (log entry 9). -/
def lowestSet (m : ChMask) : BitVec 3 :=
  match enabledChannels m with
  | [] => Config.lowestOfEmptyMask
  | i :: _ => BitVec.ofNat 3 i

/-- `next_enabled`, the cyclic successor (R21). -/
def nextEnabled (m : ChMask) (i : BitVec 3) : BitVec 3 :=
  match (enabledChannels m).filter fun j => decide (i.toNat < j) with
  | [] => lowestSet m
  | j :: _ => BitVec.ofNat 3 j

/-! ## The latched configuration (10_state.md R28, 00_scope.md R16) -/

/-- `W(code)` (R11). The code 2 has no width: a free value (log entry 9). -/
def widthOf (code : BitVec 2) : Nat :=
  if code = 0#2 then 8 else if code = 1#2 then 16 else if code = 3#2 then 32 else Config.reservedWidth

/-- The field mask of format CFG, the bits CONFIG latches (R65, R81). -/
def configFieldMask : Word := 0x0173FF00#32

/-- CONFIG.CH_EN. -/
def State.chEn (s : State) : ChMask := chEnField s.config

/-- CONFIG.BPS. -/
def State.bps (s : State) : BitVec 2 := bpsField s.config

/-- CONFIG.SPP, the samples per packet S (R16). -/
def State.spp (s : State) : Nat := sppField s.config

/-- CONFIG.CAL. -/
def State.cal (s : State) : Bool := calField s.config

/-- The data-word width W (R16). -/
def State.width (s : State) : Nat := widthOf s.bps

/-! ## The token FIFO and the occupancy (00_scope.md R20, 10_state.md R34, R39) -/

/-- Whether an item is a Data item. -/
def isData : WireItem → Bool
  | .data _ => true
  | .ctrl _ => false

/-- `data_count(FIFO)` (R20). -/
def dataCount (fifo : List WireItem) : Nat := fifo.countP isData

/-- OCC, the samples triggered and not yet consumed (R34). -/
def State.occ (s : State) : Nat := dataCount s.fifo + s.pend.toNat

/-- Outstanding work (R39). -/
def State.outstanding (s : State) : Bool :=
  decide (0 < dataCount s.fifo) || decide (s.pend ≠ 0#3) || s.rdBusy

/-- FAULTED: `FAULT[4:0] ≠ 0` (R45). -/
def State.faulted (s : State) : Bool := decide (s.fault.extractLsb' 0 5 ≠ 0#5)

/-! ## The event history (10_state.md R48) -/

/-- Record one event. -/
def State.record (s : State) (e : Event) : State := { s with history := e :: s.history }

/-- `push(FIFO, x)`, recorded (R20, R101). -/
def State.pushItem (s : State) (x : WireItem) : State :=
  { s with fifo := s.fifo ++ [x], history := .push x :: s.history }

/-- `pop(FIFO)` of the item `x` that leaves `rest`, recorded (R20, R108). -/
def State.popTo (s : State) (x : WireItem) (rest : List WireItem) : State :=
  { s with fifo := rest, history := .pop x :: s.history }

/-- Delivery of a word to SAMPLE, recorded (R108, R113). -/
def State.deliverSample (s : State) (v : Word) : State :=
  { s with sample := v, rdValid := true, history := .deliver .sample v :: s.history }

/-- Delivery of a word to PKT_BUF[i], recorded (R111). There is no entry above 4 and nothing is written there; no run asks for
one (log entry 10). -/
def State.deliverPacket (s : State) (i : Nat) (v : Word) : State :=
  { s with pktBuf := s.pktBuf.setIfInBounds i v, history := .deliver (.pktBuf i) v :: s.history }

/-! ## Taking a fault (60_exceptions.md R119, R122, R123) -/

/-- The cause codes of R119. -/
def causeCode : Cause → BitVec 4
  | .cmdReservedOp => 0x1#4
  | .cmdWrongPort => 0x2#4
  | .cmdReservedBits => 0x3#4
  | .cfgBps => 0x4#4
  | .cfgSpp => 0x5#4
  | .seqNotEnabled => 0x6#4
  | .seqBusy => 0x7#4
  | .overrun => 0x8#4
  | .protoCtrlInData => 0x9#4
  | .protoDataAtTrailer => 0xA#4
  | .protoMisaligned => 0xB#4

/-- `group(c)`: the bit of FAULT that a cause sets (R45, R119). -/
def causeGroup : Cause → Nat
  | .cmdReservedOp => 0
  | .cmdWrongPort => 0
  | .cmdReservedBits => 0
  | .cfgBps => 1
  | .cfgSpp => 1
  | .seqNotEnabled => 2
  | .seqBusy => 2
  | .overrun => 3
  | .protoCtrlInData => 4
  | .protoDataAtTrailer => 4
  | .protoMisaligned => 4

/-- `FAULT.CAUSE <- c; FAULT[group(c)] <- 1` on a value of FAULT (R122). -/
def faultWord (c : Cause) (old : Word) : Word :=
  (old &&& 0xFFFFF0FF#32) ||| ((causeCode c).setWidth 32 <<< 8) ||| (1#32 <<< causeGroup c)

/-- `FaultEnter(c, word)` (R122): the cause and the command word are recorded and both port sequences are aborted; nothing else
changes. It is performed only while the block is not faulted: every caller checks. -/
def State.faultEnter (s : State) (c : Cause) (word : Word) : State :=
  { s with
    fault := faultWord c s.fault, faultCmd := word
    ctrlBusy := false, ctrlOp := .none, tpRem := 0#3
    rdBusy := false, rdOp := .none, rdIdx := 0#3
    history := .fault c :: s.history }

/-- The tile reset (70_reset_and_hazards.md R135): every element at its reset value, and the host writes not yet accepted lost.
The parameters do not change (R136); the schedule and the analog inputs are outside the machine and go on (log entry 8). -/
def State.tileReset (s : State) : State :=
  { State.reset with
    params := s.params
    env := { s.env with ctrlHost := HostState.idle, rdHost := HostState.idle } }

/-! ## Dropped and malformed commands (30_encoding.md R72, R73) -/

/-- FAULT.DROP (R45). -/
def dropBit : Word := 0x00000080#32

/-- A command dropped in the faulted state: `FAULT.DROP <- 1`, and nothing else (R72, R73, R124). -/
def State.dropCommand (s : State) (p : Port) (word : Word) : State :=
  { s with fault := s.fault ||| dropBit, history := .drop p word :: s.history }

/-- The cause of a word the decoder rejects (R69, R70, R71). -/
def causeOfError : DecodeError → Cause
  | .reservedOp => .cmdReservedOp
  | .wrongPort => .cmdWrongPort
  | .reservedBits => .cmdReservedBits

/-- What a port does with a word that is no command of it: dropped while faulted, else the dispatch fault (R72, R73, R126). -/
def State.rejectWord (s : State) (p : Port) (word : Word) (e : DecodeError) : State :=
  if s.faulted then s.dropCommand p word else s.faultEnter (causeOfError e) word

/-- A command that the faulted state drops (every one but DISABLE_ALL, R124): dropped there, else executed. -/
def State.unlessFaulted (s : State) (p : Port) (word : Word) (body : State → State) : State :=
  if s.faulted then s.dropCommand p word else body s

/-! ## The trigger output (42_trigger.md R91, R93) -/

/-- A level on TRIG (R46). -/
def State.driveTrig (s : State) (level : Bool) : State := { s with trig := level }

/-- `pulse(kind)` (R91): TRIG to 1 and back to 0, PULSE_COUNT + 1 modulo 2^32, recorded. -/
def State.pulse (s : State) (kind : PulseKind) : State :=
  let t := (s.driveTrig true).driveTrig false
  { t with pulseCount := t.pulseCount + 1#32, history := .pulse kind :: t.history }

/-- How a part of a command leaves off: the command goes on, or a raise has ended it (R123). -/
inductive Flow where
  | goesOn (s : State)
  | ended (s : State)
deriving DecidableEq, Repr

/-- The state a part of a command left. -/
def Flow.state : Flow → State
  | .goesOn s => s
  | .ended s => s

/-- `SamplePulse(v)` (R93): the pulse is driven and counted either way; at the ceiling it raises OVERRUN, else it queues one
conversion. -/
def State.samplePulse (s : State) (word : Word) : Flow :=
  let t := s.pulse .sample
  if Config.bufDepth ≤ t.occ then .ended (t.faultEnter .overrun word)
  else .goesOn { t with pend := t.pend + 1#3 }

/-- `n` calibration pulses (41_enable_calibration.md R84). -/
def State.calPulses (s : State) : Nat → State
  | 0 => s
  | n + 1 => (s.pulse .cal).calPulses n

/-- `Calibrate()` (R84): CAL_PULSES pulses, whose conversions are discarded (R85). -/
def State.calibrate (s : State) : State := s.calPulses Config.calPulses

/-! ## The environment (00_scope.md R7, R24) -/

/-- A host agent's side. -/
def State.host (s : State) : HostAgent → HostState
  | .ctrlHost => s.env.ctrlHost
  | .rdHost => s.env.rdHost

/-- The state with a host agent's side replaced. -/
def State.setHost (s : State) (h : HostAgent) (hs : HostState) : State :=
  match h with
  | .ctrlHost => { s with env := { s.env with ctrlHost := hs } }
  | .rdHost => { s with env := { s.env with rdHost := hs } }

/-- The turn the schedule gives next: the first named one, else the free one. -/
def State.nextTurn (s : State) : Turn :=
  match s.env.turns with
  | t :: _ => t
  | [] => Config.freeTurn s.env.turnIdx

/-- The state after the schedule has given its next turn. -/
def State.consumeTurn (s : State) : State :=
  match s.env.turns with
  | _ :: ts => { s with env := { s.env with turns := ts } }
  | [] => { s with env := { s.env with turnIdx := s.env.turnIdx + 1 } }

/-- `draw_sample(CHPTR)` (R101, R102): the first named draw, else the free one. Only its low ADC_RES bits count: `justify`
takes no others. -/
def State.nextDraw (s : State) : Word :=
  match s.env.draws with
  | d :: _ => d
  | [] => Config.drawSample s.chptr s.env.drawIdx

/-- The state after a draw has been taken. -/
def State.consumeDraw (s : State) : State :=
  match s.env.draws with
  | _ :: ds => { s with env := { s.env with draws := ds } }
  | [] => { s with env := { s.env with drawIdx := s.env.drawIdx + 1 } }

end Sys2Proof.Machine
end

