-- ==== Sys2Proof/Machine/Operands.lean ====
section
/-! DEFINITION. Operand forms: ENABLE's operands and their validation (41_enable_calibration.md R79), and the two value forms a
sample takes, the justified raw value (43_packet_channel.md R103) and the zero-extended data word (44_sample_reader.md R108). -/

namespace Sys2Proof.Machine

/-- `Validate(v)` on ENABLE's operands (R79): SPP first, then BPS; the CAL bit is never checked. `none` is OK. -/
def validate (chEn : ChMask) (bps : BitVec 2) (spp : Nat) : Option Cause :=
  if spp < 1 ∨ min Config.maxSpp (popcount chEn) < spp then some .cfgSpp
  else if bps = 2#2 then some .cfgBps
  else none

/-- The value CONFIG latches from an ENABLE word (R81). -/
def latchedConfig (word : Word) : Word := word &&& configFieldMask

/-- `Justify(raw, W)` (R103) of a raw value of `res` bits: its top W bits, or the value followed by zeros. -/
def justify (res w : Nat) (raw : Word) : Word :=
  if w ≤ res then lowBits res raw >>> (res - w) else lowBits res raw <<< (w - res)

/-- The value the reader delivers for a data word: `zext_32` of its W bits, W taken from CONFIG (30_encoding.md R76). -/
def State.sampleValue (s : State) (w : Word) : Word := lowBits s.width w

end Sys2Proof.Machine
end

