-- ==== Sys2Proof/Machine/Flags.lean ====
section
/-! DEFINITION. What the block computes from its state each time it is read: readiness and the event outputs (60_exceptions.md
R127, R128), the consumer state (10_state.md R41), the operating mode (R129) and the STATUS word (R47). -/

namespace Sys2Proof.Machine

/-- DATA_READY (R128): a READ would deliver without holding. -/
def State.dataReady (s : State) : Bool := s.enabled && !s.faulted && decide (0 < dataCount s.fifo)

/-- PKT_READY (R128): a READ_PACKET would complete without holding. -/
def State.pktReady (s : State) : Bool :=
  s.enabled && !s.faulted && decide (s.rdPos = 0#3) && decide (s.spp ≤ dataCount s.fifo)

/-- IRQ_FAULT (R127), the same as STATUS.FAULTED. -/
def State.irqFault (s : State) : Bool := s.faulted

/-- The consumer states of R41. -/
inductive RdState where
  | idle
  | awaitingSamples
  | draining
deriving DecidableEq, Repr

/-- STATUS.RD_STATE as a state (R41). -/
def State.rdState (s : State) : RdState :=
  if s.rdPos ≠ 0#3 then .draining else if 0 < s.occ then .awaitingSamples else .idle

/-- The codes of R41. -/
def rdStateCode : RdState → BitVec 2
  | .idle => 0#2
  | .awaitingSamples => 1#2
  | .draining => 2#2

/-- The operating modes of R129. -/
inductive Mode where
  | disabled
  | enabled
  | faulted
deriving DecidableEq, Repr

/-- The operating mode (R129). -/
def State.mode (s : State) : Mode :=
  if s.faulted then .faulted else if s.enabled then .enabled else .disabled

/-- The channels that are powered (R134): those of CH_EN while enabled, none while powered down. -/
def State.poweredChannels (s : State) : List Nat := if s.enabled then enabledChannels s.chEn else []

/-- STATUS (R47), field by field; the other bits are zero. -/
def State.statusWord (s : State) : Word :=
  placeField 1 0 (BitVec.ofBool s.enabled) ||| placeField 1 1 (BitVec.ofBool s.faulted)
    ||| placeField 1 2 (BitVec.ofBool s.ctrlBusy) ||| placeField 1 3 (BitVec.ofBool s.rdBusy)
    ||| placeField 1 4 (BitVec.ofBool s.rdValid) ||| placeField 1 5 (BitVec.ofBool s.dataReady)
    ||| placeField 1 6 (BitVec.ofBool s.pktReady) ||| placeField 3 8 (BitVec.ofNat 3 s.occ)
    ||| placeField 3 12 s.pend ||| placeField 3 16 s.chptr ||| placeField 3 20 s.pktcnt
    ||| placeField 3 24 s.rdPos ||| placeField 2 28 (rdStateCode s.rdState)

end Sys2Proof.Machine
end

