-- ==== Sys2Proof/Machine/Enable.lean ====
section
/-! DEFINITION. ENABLE and DISABLE_ALL (41_enable_calibration.md). -/

namespace Sys2Proof.Machine

/-- The state ENABLE programs before it calibrates (R81). -/
def State.programConfig (s : State) (word : Word) (chEn : ChMask) : State :=
  { s with
    config := latchedConfig word, enabled := true, fifo := []
    pend := 0#3, pktcnt := 0#3, rdPos := 0#3, chptr := lowestSet chEn }

/-- `Enable(v)` (R81): validation, then the check for outstanding work (R82), then programming and calibration. -/
def State.enableBody (s : State) (word : Word) (chEn : ChMask) (bps : BitVec 2) (spp : Nat) : State :=
  match validate chEn bps spp with
  | some c => s.faultEnter c word
  | none =>
    if s.outstanding then s.faultEnter .seqBusy word
    else (s.programConfig word chEn).calibrate

/-- ENABLE (R81); dropped while faulted (R72). -/
def execEnable (chEn : ChMask) (bps : BitVec 2) (spp : Nat) (cal : Bool) (s : State) :
    Host.Outcome State Fault Refusal :=
  let word := encode (.enable chEn bps spp cal)
  .next (s.unlessFaulted .ctrl word fun s => s.enableBody word chEn bps spp)

/-- The constants DISABLE_ALL writes (R87). RD_WORD and CTRL_WORD are among what 60_exceptions.md R134 says returns to its reset
value; the rest of the control port and TRIG hold theirs already whenever the port accepts a word (10_state.md R37, R46). -/
def State.powerDown (s : State) : State :=
  { s with
    enabled := false, config := 0#32, chptr := 0#3, pktcnt := 0#3, pend := 0#3, fifo := [], rdPos := 0#3
    rdBusy := false, rdOp := .none, rdWord := 0#32, rdIdx := 0#3, ctrlWord := 0#32 }

/-- DISABLE_ALL (R87, R88): SEQ_BUSY is recorded if the block is not faulted and work is outstanding, and the power-down
happens in every case, the faulted state too. -/
def execDisableAll (s : State) : Host.Outcome State Fault Refusal :=
  .next (if !s.faulted && s.outstanding then (s.faultEnter .seqBusy (encode .disableAll)).powerDown else s.powerDown)

end Sys2Proof.Machine
end

