-- ==== Sys2Proof/Machine/Trigger.lean ====
section
/-! DEFINITION. TRIGGER, TRIGGER_PACKET and the CTRL_SEQ step (42_trigger.md). -/

namespace Sys2Proof.Machine

/-- `Trigger(v)` (R94). -/
def State.triggerBody (s : State) (word : Word) : State :=
  if s.enabled then (s.samplePulse word).state else s.faultEnter .seqNotEnabled word

/-- TRIGGER (R94); dropped while faulted (R72). -/
def execTrigger (s : State) : Host.Outcome State Fault Refusal :=
  let word := encode .trigger
  .next (s.unlessFaulted .ctrl word fun s => s.triggerBody word)

/-- `TriggerPacket(v)`, the accepting step (R96). -/
def State.triggerPacketBody (s : State) (word : Word) : State :=
  if s.enabled then
    { s with ctrlOp := .triggerPacket, ctrlWord := word, tpRem := BitVec.ofNat 3 s.spp, ctrlBusy := true }
  else s.faultEnter .seqNotEnabled word

/-- TRIGGER_PACKET (R96); dropped while faulted (R72). -/
def execTriggerPacket (s : State) : Host.Outcome State Fault Refusal :=
  let word := encode .triggerPacket
  .next (s.unlessFaulted .ctrl word fun s => s.triggerPacketBody word)

/-- When CTRL_SEQ has a step (R97). -/
def State.ctrlSeqEnabled (s : State) : Bool := s.ctrlBusy && !s.faulted

/-- `CtrlSeqStep()` (R97); an overrun inside it ends it. -/
def State.ctrlSeqStep (s : State) : State :=
  match ({ s with tpRem := s.tpRem - 1#3 }).samplePulse s.ctrlWord with
  | .ended t => t
  | .goesOn t => if t.tpRem = 0#3 then { t with ctrlBusy := false, ctrlOp := .none } else t

end Sys2Proof.Machine
end

