-- ==== Sys2Proof/Machine/Encoder.lean ====
section
/-! DEFINITION. The CONV step of the packet channel encoder (43_packet_channel.md R101). -/

namespace Sys2Proof.Machine

/-- When CONV has a step (R101). -/
def State.convEnabled (s : State) : Bool := s.enabled && !s.faulted && decide (s.pend ≠ 0#3)

/-- The boundary part of the CONV step (R101, R75): after the S-th word the END token is pushed and the count returns to 0. -/
def State.countWord (s : State) : State :=
  if s.pktcnt.toNat + 1 = s.spp then { s.pushItem (.ctrl s.params.endCode) with pktcnt := 0#3 }
  else { s with pktcnt := s.pktcnt + 1#3 }

/-- `ConvStep(raw)` (R101). -/
def State.convStep (s : State) (raw : Word) : State :=
  let t := s.pushItem (.data (justify s.params.adcRes s.width raw))
  ({ t with pend := t.pend - 1#3, chptr := nextEnabled t.chEn t.chptr }).countWord

end Sys2Proof.Machine
end

