-- ==== Sys2Proof/Machine/Reader.lean ====
section
/-! DEFINITION. READ, READ_PACKET, TRY_READ and the READER steps (44_sample_reader.md). -/

namespace Sys2Proof.Machine

/-- `Read(v)`, the accepting step (R107). -/
def State.readBody (s : State) (word : Word) : State :=
  if s.enabled then { s with rdOp := .read, rdWord := word, rdValid := false, rdBusy := true }
  else s.faultEnter .seqNotEnabled word

/-- READ (R107); dropped while faulted (R73). -/
def execRead (s : State) : Host.Outcome State Fault Refusal :=
  let word := encode .read
  .next (s.unlessFaulted .rd word fun s => s.readBody word)

/-- `ReadPacket(v)`, the accepting step (R110). -/
def State.readPacketBody (s : State) (word : Word) : State :=
  if s.enabled then
    if s.rdPos ≠ 0#3 then s.faultEnter .protoMisaligned word
    else { s with rdOp := .readPacket, rdWord := word, rdIdx := 0#3, rdBusy := true }
  else s.faultEnter .seqNotEnabled word

/-- READ_PACKET (R110); dropped while faulted (R73). -/
def execReadPacket (s : State) : Host.Outcome State Fault Refusal :=
  let word := encode .readPacket
  .next (s.unlessFaulted .rd word fun s => s.readPacketBody word)

/-- The loop of TRY_READ over the FIFO (R113): the control tokens at the head are popped and RD_POS returns to 0. -/
def State.absorbTokens (s : State) : List WireItem → State
  | .ctrl c :: rest => { s.popTo (.ctrl c) rest with rdPos := 0#3 }.absorbTokens rest
  | .data _ :: _ => s
  | [] => s

/-- The delivery of a data word at the head to SAMPLE (R108, R113). -/
def State.takeWord (s : State) (w : Word) (rest : List WireItem) : State :=
  let t := (s.popTo (.data w) rest).deliverSample (s.sampleValue w)
  { t with rdPos := t.rdPos + 1#3 }

/-- `TryRead(v)` (R113). After the loop the head is no control token. -/
def State.tryReadBody (s : State) (word : Word) : State :=
  if s.enabled then
    let t := s.absorbTokens s.fifo
    match t.fifo with
    | .data w :: rest => t.takeWord w rest
    | .ctrl _ :: _ => { t with rdValid := false }
    | [] => { t with rdValid := false }
  else s.faultEnter .seqNotEnabled word

/-- TRY_READ (R113); dropped while faulted (R73). -/
def execTryRead (s : State) : Host.Outcome State Fault Refusal :=
  let word := encode .tryRead
  .next (s.unlessFaulted .rd word fun s => s.tryReadBody word)

/-- When READER has a step (R108, R111). -/
def State.readerEnabled (s : State) : Bool :=
  decide (s.rdOp ≠ .none) && !s.faulted && !s.fifo.isEmpty

/-- `ReadStep()` (R108). With an empty FIFO it holds. -/
def State.readStep (s : State) : State :=
  match s.fifo with
  | [] => s
  | .ctrl c :: rest => { s.popTo (.ctrl c) rest with rdPos := 0#3 }
  | .data w :: rest => { s.takeWord w rest with rdBusy := false, rdOp := .none }

/-- A data word of a packet taken into PKT_BUF[RD_IDX] (R111). -/
def State.takePacketWord (s : State) (w : Word) (rest : List WireItem) : State :=
  let t := (s.popTo (.data w) rest).deliverPacket s.rdIdx.toNat (s.sampleValue w)
  { t with rdIdx := t.rdIdx + 1#3, rdPos := t.rdPos + 1#3 }

/-- The trailing token of a packet consumed, which completes READ_PACKET (R111). -/
def State.takeTrailer (s : State) (c : Byte) (rest : List WireItem) : State :=
  { s.popTo (.ctrl c) rest with rdPos := 0#3, rdIdx := 0#3, rdBusy := false, rdOp := .none }

/-- `ReadPacketStep()` (R111). With an empty FIFO it holds. An item that is not due is not popped. -/
def State.readPacketStep (s : State) : State :=
  match s.fifo with
  | [] => s
  | .data w :: rest =>
    if s.rdIdx.toNat < s.spp then s.takePacketWord w rest else s.faultEnter .protoDataAtTrailer s.rdWord
  | .ctrl c :: rest =>
    if s.rdIdx.toNat < s.spp then s.faultEnter .protoCtrlInData s.rdWord else s.takeTrailer c rest

/-- The READER step (R108, R111). -/
def State.readerStep (s : State) : State :=
  match s.rdOp with
  | .none => s
  | .read => s.readStep
  | .readPacket => s.readPacketStep

end Sys2Proof.Machine
end

