-- ==== Sys2Proof/Machine/Dispatch.lean ====
section
/-! DEFINITION. One arm per command: the meaning of an accepted command word (30_encoding.md R68, R72, R73). -/

namespace Sys2Proof.Machine

/-- What an accepted command does, in the step that accepts its write. -/
def exec (i : Instr) (s : State) : Host.Outcome State Fault Refusal :=
  match i with
  | .enable chEn bps spp cal => Sys2Proof.Machine.execEnable chEn bps spp cal s
  | .disableAll => Sys2Proof.Machine.execDisableAll s
  | .trigger => Sys2Proof.Machine.execTrigger s
  | .triggerPacket => Sys2Proof.Machine.execTriggerPacket s
  | .read => Sys2Proof.Machine.execRead s
  | .readPacket => Sys2Proof.Machine.execReadPacket s
  | .tryRead => Sys2Proof.Machine.execTryRead s

end Sys2Proof.Machine
end

