-- ==== Sys2Proof/Machine/Bus.lean ====
section
/-! DEFINITION. The register window and the steps of the host agents (20_memory.md R49 to R57). -/

namespace Sys2Proof.Machine

/-- The register of each word slot (R50). -/
def registerAt : Nat → Register
  | 0 => .ctrlCmd
  | 1 => .rdCmd
  | 2 => .status
  | 3 => .config
  | 4 => .fault
  | 5 => .faultCmd
  | 6 => .sample
  | 7 => .pulseCount
  | 8 => .pktBuf 0
  | 9 => .pktBuf 1
  | 10 => .pktBuf 2
  | 11 => .pktBuf 3
  | 12 => .pktBuf 4
  | 13 => .reserved 0
  | 14 => .reserved 1
  | _ => .reserved 2

/-- The offset of each register (R50). -/
def registerOffset : Register → Nat
  | .ctrlCmd => 0x00
  | .rdCmd => 0x04
  | .status => 0x08
  | .config => 0x0C
  | .fault => 0x10
  | .faultCmd => 0x14
  | .sample => 0x18
  | .pulseCount => 0x1C
  | .pktBuf i => 0x20 + 4 * i.val
  | .reserved k => 0x34 + 4 * k.val

/-- The register an access reaches: 32 bits wide, inside the window, at an offset that is a multiple of 4 (R51, R55). `none` is
a bus error. -/
def registerOf (base width addr : Nat) : Option Register :=
  if width = 4 ∧ base ≤ addr ∧ addr < base + 64 ∧ (addr - base) % 4 = 0 then some (registerAt ((addr - base) / 4)) else none

/-- What MemRead returns (R51, R54): no side effect, 0 for the write-only and the reserved registers. -/
def State.readRegister (s : State) : Register → Word
  | .ctrlCmd => 0#32
  | .rdCmd => 0#32
  | .status => s.statusWord
  | .config => s.config
  | .fault => s.fault
  | .faultCmd => s.faultCmd
  | .sample => s.sample
  | .pulseCount => s.pulseCount
  | .pktBuf i => s.pktBuf[i]
  | .reserved _ => 0#32

/-- The byte of a register at byte lane `k` (R56: bits 8k+7:8k, the nominal little-endian lanes). -/
def byteLane (v : Word) (k : Nat) : Byte := v.extractLsb' (8 * k) 8

/-- The byte at a byte address of the window, on a bus that numbers byte lanes (R56); no access of the block returns one. -/
def State.windowByte (s : State) (addr : Nat) : Option Byte :=
  if s.params.adcBase ≤ addr ∧ addr < s.params.adcBase + 64 then
    some (byteLane (s.readRegister (registerAt ((addr - s.params.adcBase) / 4))) ((addr - s.params.adcBase) % 4))
  else none

/-- The register that presents words to a port (R52). -/
def portRegister : Port → Register
  | .ctrl => .ctrlCmd
  | .rd => .rdCmd

/-- The port a register presents words to, if it is a command register (R50, R52). -/
def commandPort : Register → Option Port
  | .ctrlCmd => some .ctrl
  | .rdCmd => some .rd
  | .status => none
  | .config => none
  | .fault => none
  | .faultCmd => none
  | .sample => none
  | .pulseCount => none
  | .pktBuf _ => none
  | .reserved _ => none

/-- The busy bit of a port (R37, R38). -/
def State.portBusy (s : State) : Port → Bool
  | .ctrl => s.ctrlBusy
  | .rd => s.rdBusy

/-- A port with no command in progress. -/
def State.idlePort (s : State) : Port → State
  | .ctrl => { s with ctrlBusy := false, ctrlOp := .none, tpRem := 0#3 }
  | .rd => { s with rdBusy := false, rdOp := .none, rdIdx := 0#3 }

/-- A port accepts a word (R52): the acceptance is recorded, the word is decoded, and the command is executed or the word
rejected (R72, R73). -/
def acceptWord (p : Port) (v : Word) (s : State) : Host.Outcome State Fault Refusal :=
  let t := s.record (.accept p v)
  match decode p v with
  | .ok i => exec i t
  | .error e => .next (t.rejectWord p v e)

/-- MemWrite (R52): a command register presents the word to its port; every other register ignores it. -/
def writeRegister (r : Register) (v : Word) (s : State) : Host.Outcome State Fault Refusal :=
  match commandPort r with
  | some p => acceptWord p v s
  | none => .next s

/-- The width and the address of an access. -/
def accessTarget : Access → Nat × Nat
  | .read width addr => (width, addr)
  | .write width addr _ => (width, addr)
  | .poll width addr _ _ => (width, addr)

/-- The register an access reaches under the parameters in force. -/
def State.accessRegister (s : State) (a : Access) : Option Register :=
  registerOf s.params.adcBase (accessTarget a).1 (accessTarget a).2

/-- Whether an access waits for a busy port (R53). A bus error does not wait. -/
def State.stalls (s : State) : Access → Bool
  | .write width addr _ =>
    match registerOf s.params.adcBase width addr with
    | some r =>
      match commandPort r with
      | some p => s.portBusy p
      | none => false
    | none => false
  | .read _ _ => false
  | .poll _ _ _ _ => false

/-- When a host agent has a step: it has an access to perform and does not hold a stalled write (R53, R153). -/
def State.hostEnabled (s : State) (h : HostAgent) : Bool :=
  match (s.host h).todo with
  | [] => false
  | a :: _ => !s.stalls a

/-- An access performed on a register (R51, R52). A poll that has not read what it waits for is performed again (R78). -/
def performAccess (h : HostAgent) (a : Access) (rest : List Access) (r : Register) (s : State) :
    Host.Outcome State Fault Refusal :=
  match a with
  | .read _ _ => .next (s.setHost h { todo := rest, lastRead := some (s.readRegister r) })
  | .poll _ _ mask want =>
    .next (s.setHost h
      { todo := if s.readRegister r &&& mask = want then rest else a :: rest, lastRead := some (s.readRegister r) })
  | .write _ _ v => writeRegister r v (s.setHost h { todo := rest, lastRead := (s.host h).lastRead })

/-- A host agent's step: its next access, or a bus error (R51, R52, R55). -/
def hostStep (h : HostAgent) (s : State) : Host.Outcome State Fault Refusal :=
  match (s.host h).todo with
  | [] => .next s
  | a :: rest =>
    match s.accessRegister a with
    | none => .fault (.busError h (accessTarget a).2)
    | some r => performAccess h a rest r s

/-- The host agent that drives each port (00_scope.md R7). -/
def hostOfPort : Port → HostAgent
  | .ctrl => .ctrlHost
  | .rd => .rdHost

/-- The bus write of a command word to its port (R52). -/
def State.commandWrite (s : State) (p : Port) (v : Word) : Access :=
  .write 4 (s.params.adcBase + registerOffset (portRegister p)) v

end Sys2Proof.Machine
end

