-- ==== Sys2Proof/Machine/Agents.lean ====
section
/-! DEFINITION. The agents and their turns (00_scope.md R7): which agent has a step, and what it is. -/

namespace Sys2Proof.Machine

/-- Whether an agent has a step in this state; one that has none holds (R21). -/
def State.agentEnabled (s : State) : Agent → Bool
  | .host h => s.hostEnabled h
  | .ctrlSeq => s.ctrlSeqEnabled
  | .conv => s.convEnabled
  | .reader => s.readerEnabled

/-- The step of an agent that has one. CONV takes its draw from the analog inputs (R101, R102). -/
def agentStep (a : Agent) (s : State) : Host.Outcome State Fault Refusal :=
  match a with
  | .host h => hostStep h s
  | .ctrlSeq => .next s.ctrlSeqStep
  | .conv => .next (s.consumeDraw.convStep s.nextDraw)
  | .reader => .next s.readerStep

/-- A turn: the agent's step if it has one, nothing if it holds, or the tile reset (R7, R135; log entry 4). -/
def takeTurn (t : Turn) (s : State) : Host.Outcome State Fault Refusal :=
  match t with
  | .agent a => if s.agentEnabled a then agentStep a s else .next s
  | .tileReset => .next s.tileReset

/-- The state in which the next turn is a host agent's write of a command word to its port, and the port is free to accept it. -/
def State.presentWord (s : State) (p : Port) (v : Word) : State :=
  let t := s.idlePort p
  let hs := t.host (hostOfPort p)
  let u := t.setHost (hostOfPort p) { hs with todo := t.commandWrite p v :: hs.todo }
  { u with env := { u.env with turns := .agent (.host (hostOfPort p)) :: u.env.turns } }

end Sys2Proof.Machine
end

