-- ==== Sys2Proof/Machine/Step.lean ====
section
/-! DEFINITION. One step of the machine: the schedule gives a turn (20_memory.md R58: every step is atomic, a run is one total
order of steps). The block fetches nothing (R62, R137): a command runs in the step that accepts its bus write. -/

namespace Sys2Proof.Machine

/-- One step: the next turn of the schedule, taken. -/
def step (s : State) : Host.Outcome State Fault Refusal := takeTurn s.nextTurn s.consumeTurn

/-- `s` with the command word of `nbits` bits presented to its port, so that the very next step accepts and runs it: the host
agent of the port has the write as its next access and the next turn, and the port is free. -/
def State.withFetchWord (s : State) (nbits w : Nat) : State :=
  s.presentWord (portOfWord (tableWord nbits w)) (tableWord nbits w)

end Sys2Proof.Machine
end

