-- ==== Sys2Proof/Machine/Assembler.lean ====
section
/-! DEFINITION. The assembler (30_encoding.md R77) and the source's operations as sequences of block accesses (R78). The block
sees only the accesses; the control flow of a host program is host state (10_state.md R26) and is not here. -/

namespace Sys2Proof.Machine

/-- The bits-per-sample code of an assembler operand, 8, 16 or 32 (R77). -/
def bpsCodeOfBits (n : Nat) : Option (BitVec 2) :=
  if n = 8 then some 0#2 else if n = 16 then some 1#2 else if n = 32 then some 3#2 else none

/-- The assembler's ENABLE: it refuses an operand outside its field (R77). -/
def assembleEnable (ch bps spp cal : Nat) : Option Instr :=
  match bpsCodeOfBits bps with
  | none => none
  | some code =>
    if ch ≤ 0xFF ∧ spp ≤ 7 ∧ cal ≤ 1 then some (.enable (BitVec.ofNat 8 ch) code spp (decide (cal = 1))) else none

/-- The bus write of a word to a register by name (R77: `W <REG>, <word>`). -/
def writeTo (base : Nat) (r : Register) (w : Word) : Access := .write 4 (base + registerOffset r) w

/-- The bus read of a register by name (R77: `R <REG>`). -/
def readFrom (base : Nat) (r : Register) : Access := .read 4 (base + registerOffset r)

/-- The bus write of a command to its port (R68, R77). -/
def commandAccess (base : Nat) (i : Instr) : Access := writeTo base (portRegister (portOf i)) (encode i)

/-- One line of a host program as the access it stands for; `none` where the assembler refuses (R77). -/
def assembleLine (base : Nat) : AsmLine → Option Access
  | .enable ch bps spp cal => (assembleEnable ch bps spp cal).map (commandAccess base)
  | .disableAll => some (commandAccess base .disableAll)
  | .trigger => some (commandAccess base .trigger)
  | .triggerPacket => some (commandAccess base .triggerPacket)
  | .read => some (commandAccess base .read)
  | .readPacket => some (commandAccess base .readPacket)
  | .tryRead => some (commandAccess base .tryRead)
  | .rawCtrl w => some (writeTo base .ctrlCmd w)
  | .rawRd w => some (writeTo base .rdCmd w)
  | .writeReg r w => some (writeTo base r w)
  | .readReg r => some (readFrom base r)

/-- The source's AdcConfiguration as its caller holds it: eight flags and three integers (10_state.md R24, R28). -/
structure SourceConfig where
  flags : Vector Nat 8
  bitsPerSample : Nat
  samplesPerPacket : Nat
  calibrationMode : Nat
deriving DecidableEq, Repr

/-- The channel mask of a source configuration: bit i is set iff flag i is not 0 (R78). -/
def SourceConfig.mask (c : SourceConfig) : ChMask :=
  BitVec.ofNat 8 (((List.finRange 8).filter fun i => decide (c.flags[i] ≠ 0)).map fun i => 2 ^ i.val).sum

/-- `enc(config)` (R78): an out-of-range integer stays out of range. -/
def SourceConfig.enc (c : SourceConfig) : Instr :=
  .enable c.mask (BitVec.ofNat 2 (if c.bitsPerSample < 4 then c.bitsPerSample else 2)) (min c.samplesPerPacket 7)
    (decide (c.calibrationMode ≠ 0))

/-- The source's operations (R78). The arguments that are not sent to the block are left out; `samples` of a packet read is how
many entries the caller takes. -/
inductive SourceCall where
  | enable (c : SourceConfig)
  | disableAll
  | trigger
  | triggerPacket
  | read
  | readPacket (samples : Nat)
  | tryRead
  | selectRead
  | selectReadPacket (samples : Nat)
deriving DecidableEq, Repr

/-- STATUS.RD_BUSY, RD_VALID, DATA_READY and PKT_READY as masks (10_state.md R47). -/
def rdBusyMask : Word := 0x8#32
def rdValidMask : Word := 0x10#32
def dataReadyMask : Word := 0x20#32
def pktReadyMask : Word := 0x40#32

/-- Repeat `R STATUS` until the masked value is `want` (R78). -/
def pollStatus (base : Nat) (mask want : Word) : Access := .poll 4 (base + registerOffset .status) mask want

/-- The reads of PKT_BUF0 to PKT_BUF<S-1> (R78). -/
def readPacketBuffer (base samples : Nat) : List Access :=
  ((List.finRange 5).filter fun i => decide (i.val < samples)).map fun i => readFrom base (.pktBuf i)

/-- The accesses of `read(config)` (R78). -/
def expandRead (base : Nat) : List Access :=
  [commandAccess base .read, pollStatus base rdBusyMask 0#32, readFrom base .sample]

/-- The accesses of `read_packet(config)` (R78). -/
def expandReadPacket (base samples : Nat) : List Access :=
  [commandAccess base .readPacket, pollStatus base rdBusyMask 0#32] ++ readPacketBuffer base samples

/-- The accesses of a source operation (R78). What `try_read` does next depends on the STATUS it reads: `afterTryRead`. -/
def expandCall (base : Nat) : SourceCall → List Access
  | .enable c => [commandAccess base c.enc, readFrom base .fault]
  | .disableAll => [commandAccess base .disableAll]
  | .trigger => [commandAccess base .trigger]
  | .triggerPacket => [commandAccess base .triggerPacket]
  | .read => expandRead base
  | .readPacket samples => expandReadPacket base samples
  | .tryRead => [commandAccess base .tryRead, readFrom base .status]
  | .selectRead => pollStatus base dataReadyMask dataReadyMask :: expandRead base
  | .selectReadPacket samples => pollStatus base pktReadyMask pktReadyMask :: expandReadPacket base samples

/-- The accesses of `try_read()` after it has read `status`: `R SAMPLE` for Some, nothing for None (R78). -/
def afterTryRead (base : Nat) (status : Word) : List Access :=
  if status &&& rdValidMask = 0#32 then [] else [readFrom base .sample]

end Sys2Proof.Machine
end

