-- ==== Sys2Proof/Safety.lean ====
section
/-! DEFINITION. The terms claims use: the end of a run (70_reset_and_hazards.md R153), runs and fairness (R140), and the
invariants the spec states of every reachable state (10_state.md R29 to R46). -/

namespace Sys2Proof.Machine

/-! ## The end of a run (R153) -/

/-- No host agent has a step left and none holds a stalled write: both have performed every access. -/
def State.hostsDone (s : State) : Bool := s.env.ctrlHost.todo.isEmpty && s.env.rdHost.todo.isEmpty

/-- A quiescent state (R153). -/
def State.quiescent (s : State) : Bool :=
  s.hostsDone && !s.ctrlBusy && decide (s.pend = 0#3) && !s.readerEnabled

/-- A final state (R153). A bus error has ended the run before any state of it is final. -/
def State.final (s : State) : Bool :=
  s.quiescent && !s.faulted && !s.rdBusy && decide (dataCount s.fifo = 0)

/-- A quiescent state that is stuck: a READ or READ_PACKET is starving (R153). -/
def State.stuck (s : State) : Bool := s.quiescent && s.rdBusy

/-- A quiescent state with unread samples (R153). -/
def State.unread (s : State) : Bool := s.quiescent && decide (0 < dataCount s.fifo)

/-- The observation of a final state: the registers' values and the event history (R153). -/
def State.observation (s : State) : List Word × List Event :=
  ((List.range 16).map fun k => s.readRegister (registerAt k), s.history)

/-! ## Runs and fairness (R58, R140) -/

/-- An infinite run: every state is a step's next state of the one before. -/
def IsRun (r : Nat → State) : Prop := ∀ n, step (r n) = .next (r (n + 1))

/-- Agent `a` takes a step at position `n` of a run. -/
def StepsAt (r : Nat → State) (a : Agent) (n : Nat) : Prop :=
  (r n).nextTurn = .agent a ∧ (r n).agentEnabled a = true

/-- How many steps agent `a` takes at the `k` positions from `n` on. -/
def stepCount (r : Nat → State) (a : Agent) (n : Nat) : Nat → Nat
  | 0 => 0
  | k + 1 =>
    stepCount r a n k + if (r (n + k)).nextTurn = .agent a ∧ (r (n + k)).agentEnabled a = true then 1 else 0

/-- Weak fairness of an agent (R140): if it stays enabled, it eventually takes a step. -/
def WeaklyFair (r : Nat → State) (a : Agent) : Prop :=
  ∀ n, (∀ m, n ≤ m → (r m).agentEnabled a = true) → ∃ m, n ≤ m ∧ StepsAt r a m

/-! ## Sequences of commands and steps (44_sample_reader.md R115, R116) -/

/-- The next state of an outcome, or `s` where the machine has stopped. -/
def outcomeState (s : State) : Host.Outcome State Fault Refusal → State
  | .next t => t
  | .fault _ => s
  | .refused _ => s

/-- The state after a command has been executed. -/
def State.after (s : State) (i : Instr) : State := outcomeState s (exec i s)

/-- The state after `n` TRIGGERs. -/
def State.afterTriggers (s : State) : Nat → State
  | 0 => s
  | n + 1 => (s.after .trigger).afterTriggers n

/-- The state after `n` CTRL_SEQ steps. -/
def State.afterCtrlSeq (s : State) : Nat → State
  | 0 => s
  | n + 1 => s.ctrlSeqStep.afterCtrlSeq n

/-- The state after CONV steps with the draws `raws`, in order. -/
def State.afterConversions (s : State) (raws : List Word) : State := raws.foldl State.convStep s

/-- The state after `n` READER steps. -/
def State.afterReader (s : State) : Nat → State
  | 0 => s
  | n + 1 => s.readerStep.afterReader n

/-- A READ followed by READER steps until it is no longer busy, two at most (R108). -/
def State.readToEnd (s : State) : State :=
  let t := (s.after .read).readerStep
  if t.rdBusy then t.readerStep else t

/-- What `n` READs in a row deliver to SAMPLE. -/
def State.readSamples (s : State) : Nat → List Word
  | 0 => []
  | n + 1 => s.readToEnd.sample :: s.readToEnd.readSamples n

/-- The state after `n` READs in a row. -/
def State.afterReads (s : State) : Nat → State
  | 0 => s
  | n + 1 => s.readToEnd.afterReads n

/-- The value a conversion of `raw` delivers under the current configuration (R103, R108). -/
def State.deliveredValue (s : State) (raw : Word) : Word := s.sampleValue (justify s.params.adcRes s.width raw)

/-! ## The stream on the wire (10_state.md R36) -/

/-- Where a run of wire items leaves a reader that has taken `c` data words of its packet: a Data item is due while `c < spp`, a
Ctrl item exactly when `c = spp`. `none` if the items are no part of `(D^S E)* D^k`. -/
def streamEnd (spp : Nat) : Nat → List WireItem → Option Nat
  | c, [] => some c
  | c, .data _ :: rest => if c < spp then streamEnd spp (c + 1) rest else none
  | c, .ctrl _ :: rest => if c = spp then streamEnd spp 0 rest else none

/-! ## Invariants -/

/-- R29: CONFIG is a legal configuration while ENABLED, and 0 while not. -/
abbrev State.configLegal (s : State) : Prop :=
  (s.enabled = true →
    s.bps ≠ 2#2 ∧ 1 ≤ s.spp ∧ s.spp ≤ min Config.maxSpp (popcount s.chEn) ∧ s.config &&& configFieldMask = s.config) ∧
  (s.enabled = false → s.config = 0#32)

/-- R87, R89, R134: what is cleared while the block is not ENABLED. (`ctrlPortLegal` and `rdPortLegal` clear the rest of an idle
port.) -/
abbrev State.clearedWhileDisabled (s : State) : Prop :=
  s.enabled = false →
    s.chptr = 0#3 ∧ s.pktcnt = 0#3 ∧ s.pend = 0#3 ∧ s.fifo = [] ∧ s.rdPos = 0#3 ∧ s.rdBusy = false ∧ s.ctrlBusy = false ∧
    s.ctrlWord = 0#32 ∧ s.rdWord = 0#32

/-- R30: while ENABLED, CH_EN[CHPTR] = 1. -/
abbrev State.chptrOnEnabledChannel (s : State) : Prop :=
  s.enabled = true → s.chEn.getLsbD s.chptr.toNat = true

/-- R36 and R40, R31: the FIFO takes the reader from RD_POS to the encoder's PKTCNT, which is below S while ENABLED. -/
abbrev State.streamAligned (s : State) : Prop :=
  streamEnd s.spp s.rdPos.toNat s.fifo = some s.pktcnt.toNat ∧ (s.enabled = true → s.pktcnt.toNat < s.spp)

/-- An item the encoder can have pushed: a Data item of W bits, or a Ctrl item of code END_CODE (R74, R75, R76). -/
def itemLegal (w : Nat) (endCode : Byte) : WireItem → Bool
  | .data d => (WireItem.data d).wellFormed w
  | .ctrl c => decide (c = endCode)

/-- R74, R75, R76: every item of the FIFO is one the encoder can have pushed under the current W. -/
abbrev State.itemsLegal (s : State) : Prop := ∀ x ∈ s.fifo, itemLegal s.width s.params.endCode x = true

/-- R34: the occupancy stays within BUF_DEPTH. -/
abbrev State.occupancyBounded (s : State) : Prop := s.occ ≤ Config.bufDepth

/-- R37: CTRL_BUSY = 1 exactly when TP_REM > 0, and CTRL_OP and CTRL_WORD name the command; TP_REM never exceeds S. -/
abbrev State.ctrlPortLegal (s : State) : Prop :=
  (s.ctrlBusy = true ↔ s.tpRem ≠ 0#3) ∧ (s.ctrlBusy = true ↔ s.ctrlOp = .triggerPacket) ∧
  s.tpRem.toNat ≤ s.spp ∧ (s.ctrlBusy = true → s.ctrlWord = encode .triggerPacket)

/-- R38, R42, R110: RD_BUSY = 1 exactly when RD_OP names a command, RD_WORD is its word, RD_IDX counts with RD_POS during a
READ_PACKET and is 0 otherwise, and RD_VALID is 0 during a READ. -/
abbrev State.rdPortLegal (s : State) : Prop :=
  (s.rdBusy = true ↔ s.rdOp ≠ .none) ∧
  (s.rdOp = .readPacket → s.rdIdx = s.rdPos ∧ s.rdWord = encode .readPacket) ∧
  (s.rdOp = .read → s.rdWord = encode .read ∧ s.rdValid = false) ∧
  (s.rdOp ≠ .readPacket → s.rdIdx = 0#3)

/-- The values FAULT can hold in a run: 0, or one cause with its group bit (R45, R119, R122), for every cause of R119 but 0x9
and 0xA, which R112 says cannot occur. -/
def firstFaultWords : List Word :=
  [0x101#32, 0x201#32, 0x301#32, 0x402#32, 0x502#32, 0x604#32, 0x704#32, 0x808#32, 0xB10#32]

/-- The same with DROP, which a command written to the faulted block sets (R45, R124). -/
def legalFaultWords : List Word :=
  0#32 :: firstFaultWords ++
    [0x181#32, 0x281#32, 0x381#32, 0x482#32, 0x582#32, 0x684#32, 0x784#32, 0x888#32, 0xB90#32]

/-- R45, R122, R125: FAULT is legal; FAULT_CMD is 0 until a fault; both port sequences are aborted by one. -/
abbrev State.faultLegal (s : State) : Prop :=
  s.fault ∈ legalFaultWords ∧ (s.faulted = false → s.faultCmd = 0#32) ∧
  (s.faulted = true → s.ctrlBusy = false ∧ s.rdBusy = false)

/-- Whether an event is a pulse. -/
def isPulseEvent : Event → Bool
  | .pulse _ => true
  | .accept _ _ => false
  | .drop _ _ => false
  | .push _ => false
  | .pop _ => false
  | .deliver _ _ => false
  | .fault _ => false

/-- Whether an event is a fault entry. -/
def isFaultEvent : Event → Bool
  | .fault _ => true
  | .accept _ _ => false
  | .drop _ _ => false
  | .push _ => false
  | .pop _ => false
  | .deliver _ _ => false
  | .pulse _ => false

/-- R44, R46, R122: PULSE_COUNT counts the Pulse events modulo 2^32, TRIG rests at 0, and there is one Fault event exactly when
the block is faulted. -/
abbrev State.historyAgrees (s : State) : Prop :=
  s.pulseCount = BitVec.ofNat 32 (s.history.countP isPulseEvent) ∧ s.trig = false ∧
  s.history.countP isFaultEvent = if s.faulted then 1 else 0

/-- Everything the spec says of every reachable state, together with legal parameters (R12, R14). -/
structure State.WellBehaved (s : State) : Prop where
  params : s.params.wellFormed = true
  config : s.configLegal
  cleared : s.clearedWhileDisabled
  chptr : s.chptrOnEnabledChannel
  stream : s.streamAligned
  items : s.itemsLegal
  occupancy : s.occupancyBounded
  ctrlPort : s.ctrlPortLegal
  rdPort : s.rdPortLegal
  fault : s.faultLegal
  history : s.historyAgrees

end Sys2Proof.Machine
end

