-- ==== Sys2Proof/Certificates/Slice0/Obligations.lean ====
section
/-! DEFINITION. The statements about the model. Each says which rule of spec/ it formalises; OBLIGATIONS.json lists them. A raised
fault is written with the one operation that takes it, `State.faultEnter`, and `FaultEntryEffect` says what that does. -/

open Sys2Proof Sys2Proof.Machine

/-! ## Encoding (30_encoding.md) -/

/-- Every well-formed command is read back from its word on its own port (R64 to R68). -/
def Obligations.DecodeEncodeAgree : Prop :=
  ∀ i : Instr, i.wellFormed = true → decode (portOf i) (encode i) = .ok i

/-- A word a port decodes is the word of the command it decodes to, on that command's port (R64 to R68). -/
def Obligations.DecodedWordIsEncoding : Prop :=
  ∀ (p : Port) (v : Word) (i : Instr), decode p v = .ok i → encode i = v ∧ portOf i = p ∧ i.wellFormed = true

/-- A few words written out from R65 and R68, and what they decode to. -/
def Obligations.WrittenWordsDecode : Prop :=
  decode .ctrl 0x00310701#32 = .ok (.enable 0x07#8 1#2 3 false) ∧
  decode .ctrl 0x0153FF01#32 = .ok (.enable 0xFF#8 3#2 5 true) ∧
  decode .ctrl 0x00000002#32 = .ok .disableAll ∧ decode .ctrl 0x00000003#32 = .ok .trigger ∧
  decode .ctrl 0x00000004#32 = .ok .triggerPacket ∧ decode .rd 0x00000008#32 = .ok .read ∧
  decode .rd 0x00000009#32 = .ok .readPacket ∧ decode .rd 0x0000000A#32 = .ok .tryRead

/-- R69: a reserved opcode is illegal on both ports and raises cause 0x1; the all-zero word is one. That Accept is recorded for such
a word is the model's reading (log entry 7, DEDUCED). -/
def Obligations.ReservedOpcodeFaults : Prop :=
  (∀ (s : State) (p : Port) (v : Word), s.faulted = false →
    opField v ∈ [0x0#4, 0x5#4, 0x6#4, 0x7#4, 0xB#4, 0xC#4, 0xD#4, 0xE#4, 0xF#4] →
    acceptWord p v s = .next ((s.record (.accept p v)).faultEnter .cmdReservedOp v)) ∧
  opField 0x00000000#32 = 0x0#4

/-- R70: a reader command on the control port and a control command on the reader port raise cause 0x2. That Accept is
recorded for such a word is the model's reading (log entry 7, DEDUCED). -/
def Obligations.WrongPortFaults : Prop :=
  ∀ (s : State) (v : Word), s.faulted = false →
    (opField v ∈ [0x8#4, 0x9#4, 0xA#4] →
      acceptWord .ctrl v s = .next ((s.record (.accept .ctrl v)).faultEnter .cmdWrongPort v)) ∧
    (opField v ∈ [0x1#4, 0x2#4, 0x3#4, 0x4#4] →
      acceptWord .rd v s = .next ((s.record (.accept .rd v)).faultEnter .cmdWrongPort v))

/-- R71: a legal opcode on its own port with a reserved bit set raises cause 0x3, and the command is not executed. That Accept
is recorded for such a word is the model's reading (log entry 7, DEDUCED). -/
def Obligations.ReservedBitsFault : Prop :=
  ∀ (s : State) (v : Word), s.faulted = false →
    (opField v = 0x1#4 → v &&& 0xFE8C00F0#32 ≠ 0#32 →
      acceptWord .ctrl v s = .next ((s.record (.accept .ctrl v)).faultEnter .cmdReservedBits v)) ∧
    (opField v ∈ [0x2#4, 0x3#4, 0x4#4] → v >>> 4 ≠ 0#32 →
      acceptWord .ctrl v s = .next ((s.record (.accept .ctrl v)).faultEnter .cmdReservedBits v)) ∧
    (opField v ∈ [0x8#4, 0x9#4, 0xA#4] → v >>> 4 ≠ 0#32 →
      acceptWord .rd v s = .next ((s.record (.accept .rd v)).faultEnter .cmdReservedBits v))

/-- R74: a wire item is read back from its tagged value, with W taken from outside. -/
def Obligations.TaggedItemsReadBack : Prop :=
  ∀ (w : Nat) (x : WireItem), w ≤ 32 → x.wellFormed w = true → untagItem w (tagItem w x) = some x

/-- R77: the assembler refuses an ENABLE operand outside its field, and else gives the word
`0x1 | mask<<8 | code<<16 | n<<20 | cal<<24`. -/
def Obligations.AssembledEnableWord : Prop :=
  ∀ ch bps spp cal : Nat, ∀ row ∈ [(8, 0), (16, 1), (32, 3)],
    (bps ∉ [8, 16, 32] ∨ 0xFF < ch ∨ 7 < spp ∨ 1 < cal → assembleEnable ch bps spp cal = none) ∧
    (bps = row.1 → ch ≤ 0xFF → spp ≤ 7 → cal ≤ 1 →
      ∃ i, assembleEnable ch bps spp cal = some i ∧
        (encode i).toNat = 1 + ch * 2 ^ 8 + row.2 * 2 ^ 16 + spp * 2 ^ 20 + cal * 2 ^ 24)

/-! ## Steps, the bus and the registers (20_memory.md) -/

/-- When the next turn is a host agent's write of a word to a free port and the word decodes, the step is `exec` of the command,
in the state in which the turn is used, the access done and the acceptance recorded (R52, R57). That the schedule and the hosts'
accesses are data of `State` is the model's choice (log entries 4 and 6), and so is that Accept is recorded for a word that the
faulted block then drops (log entry 7, DEDUCED). -/
def Obligations.StepRunsDecodedCommand : Prop :=
  ∀ (s : State) (h : HostAgent) (p : Port) (v : Word) (i : Instr) (rest : List Access),
    s.nextTurn = .agent (.host h) → (s.host h).todo = s.commandWrite p v :: rest → s.portBusy p = false →
    decode p v = .ok i →
    step s = exec i ((s.consumeTurn.setHost h { todo := rest, lastRead := (s.host h).lastRead }).record (.accept p v))

/-- A presented command word is run by the very next step, and nothing else of the state changes but that its port is free and
the acceptance recorded (R52, R62). How a word is presented is the model's choice (log entry 6), and so is
that Accept is recorded for a word that the faulted block then drops (log entry 7, DEDUCED). -/
def Obligations.PresentedWordRunsNext : Prop :=
  ∀ (s : State) (nbits w : Nat) (i : Instr), decodeTableWord nbits w = some i →
    step (s.withFetchWord nbits w) = exec i ((s.idlePort (portOf i)).record (.accept (portOf i) (encode i)))

/-- R50, R51: what a read of each offset returns; it changes nothing but the reading host's side, which is
the model's own (log entry 6). -/
def Obligations.RegisterReads : Prop :=
  ∀ (s : State) (h : HostAgent) (rest : List Access),
    ∀ row ∈ [(0x00, 0#32), (0x04, 0#32), (0x08, s.statusWord), (0x0C, s.config), (0x10, s.fault), (0x14, s.faultCmd),
        (0x18, s.sample), (0x1C, s.pulseCount), (0x20, s.pktBuf[0]), (0x24, s.pktBuf[1]), (0x28, s.pktBuf[2]),
        (0x2C, s.pktBuf[3]), (0x30, s.pktBuf[4]), (0x34, 0#32), (0x38, 0#32), (0x3C, 0#32)],
      (s.host h).todo = .read 4 (s.params.adcBase + row.1) :: rest →
      s.hostEnabled h = true ∧
      ∃ t, hostStep h s = .next t ∧ t = { s with env := t.env } ∧ t.host h = { todo := rest, lastRead := some row.2 } ∧
        (∀ g, g ≠ h → t.host g = s.host g) ∧
        t.env = { t.env with turns := s.env.turns, turnIdx := s.env.turnIdx, draws := s.env.draws, drawIdx := s.env.drawIdx }

/-- R52, R54: a write to any other offset completes in one step and changes nothing but the writing host's side, which is the
model's own (log entry 6). -/
def Obligations.OtherWritesIgnored : Prop :=
  ∀ (s : State) (h : HostAgent) (off : Nat) (v : Word) (rest : List Access),
    8 ≤ off → off ≤ 0x3C → off % 4 = 0 → (s.host h).todo = .write 4 (s.params.adcBase + off) v :: rest →
    s.hostEnabled h = true ∧ hostStep h s = .next (s.setHost h { todo := rest, lastRead := (s.host h).lastRead })

/-- R53: a command write to a busy port is held: the host's turn changes nothing but the schedule, which is the model's own
(log entry 4). -/
def Obligations.BusyPortStalls : Prop :=
  ∀ (s : State) (h : HostAgent) (p : Port) (v : Word) (rest : List Access),
    (s.host h).todo = s.commandWrite p v :: rest →
    (s.portBusy p = true → s.hostEnabled h = false ∧ (s.nextTurn = .agent (.host h) → step s = .next s.consumeTurn)) ∧
    (s.portBusy p = false → s.hostEnabled h = true)

/-- R55: an access of another width, at a misaligned address or outside the window is a bus error of the issuing host. That
it is the fault outcome of the step, with natural numbers as addresses, on that host's turn, is the model's form of it (log
entries 4, 6 and 13). -/
def Obligations.BusErrors : Prop :=
  ∀ (s : State) (h : HostAgent) (a : Access) (rest : List Access), s.params.wellFormed = true →
    s.nextTurn = .agent (.host h) → (s.host h).todo = a :: rest →
    (accessTarget a).1 ≠ 4 ∨ (accessTarget a).2 % 4 ≠ 0 ∨ (accessTarget a).2 < s.params.adcBase ∨
      s.params.adcBase + 0x3F < (accessTarget a).2 →
    step s = .fault (.busError h (accessTarget a).2)

/-- R47, with the derivations of R41 and R128: every field of STATUS, the zero bits among them, and STATUS after reset. -/
def Obligations.StatusFields : Prop :=
  State.reset.statusWord = 0x00000000#32 ∧ ∀ s : State,
    s.statusWord.getLsbD 0 = s.enabled ∧
    s.statusWord.getLsbD 1 = decide (s.fault.extractLsb' 0 5 ≠ 0#5) ∧
    s.statusWord.getLsbD 2 = s.ctrlBusy ∧ s.statusWord.getLsbD 3 = s.rdBusy ∧ s.statusWord.getLsbD 4 = s.rdValid ∧
    s.statusWord.getLsbD 5 = (s.enabled && decide (s.fault.extractLsb' 0 5 = 0#5) && decide (0 < dataCount s.fifo)) ∧
    s.statusWord.getLsbD 6 =
      (s.enabled && decide (s.fault.extractLsb' 0 5 = 0#5) && decide (s.rdPos = 0#3) &&
        decide ((s.config.extractLsb' 20 3).toNat ≤ dataCount s.fifo)) ∧
    s.statusWord.extractLsb' 8 3 = BitVec.ofNat 3 (dataCount s.fifo + s.pend.toNat) ∧
    s.statusWord.extractLsb' 12 3 = s.pend ∧ s.statusWord.extractLsb' 16 3 = s.chptr ∧
    s.statusWord.extractLsb' 20 3 = s.pktcnt ∧ s.statusWord.extractLsb' 24 3 = s.rdPos ∧
    s.statusWord.extractLsb' 28 2 =
      (if s.rdPos ≠ 0#3 then 2#2 else if 0 < dataCount s.fifo + s.pend.toNat then 1#2 else 0#2) ∧
    ∀ k ∈ [7, 11, 15, 19, 23, 27, 30, 31], s.statusWord.getLsbD k = false

/-! ## Faults (60_exceptions.md) -/

/-- R119, R122: what fault entry records for each cause, and that it changes nothing else. That RD_WORD and CTRL_WORD
are kept is the model's reading (log entry 12, DEDUCED). -/
def Obligations.FaultEntryEffect : Prop :=
  ∀ (s : State) (word : Word),
    ∀ row ∈ [(Cause.cmdReservedOp, 0x1#4, 0), (.cmdWrongPort, 0x2#4, 0), (.cmdReservedBits, 0x3#4, 0), (.cfgBps, 0x4#4, 1),
        (.cfgSpp, 0x5#4, 1), (.seqNotEnabled, 0x6#4, 2), (.seqBusy, 0x7#4, 2), (.overrun, 0x8#4, 3),
        (.protoCtrlInData, 0x9#4, 4), (.protoDataAtTrailer, 0xA#4, 4), (.protoMisaligned, 0xB#4, 4)],
      (s.faultEnter row.1 word).fault.extractLsb' 8 4 = row.2.1 ∧
      (∀ k, k < 8 ∨ 12 ≤ k →
        (s.faultEnter row.1 word).fault.getLsbD k = (s.fault.getLsbD k || decide (k = row.2.2))) ∧
      s.faultEnter row.1 word =
        { s with
          fault := (s.faultEnter row.1 word).fault, faultCmd := word
          ctrlBusy := false, ctrlOp := .none, tpRem := 0#3, rdBusy := false, rdOp := .none, rdIdx := 0#3
          history := .fault row.1 :: s.history }

/-- R72, R73, R124: while faulted, every word but DISABLE_ALL on the control port is dropped: DROP is set and nothing else
changes (beside the model's record of the acceptance and the drop, log entry 7). -/
def Obligations.FaultedDropsCommands : Prop :=
  ∀ (s : State) (p : Port) (v : Word), s.faulted = true → ¬(p = .ctrl ∧ v = 0x00000002#32) →
    acceptWord p v s =
      .next { s with fault := s.fault ||| 0x00000080#32, history := .drop p v :: .accept p v :: s.history }

/-- R124, R125: until a tile reset, a faulted block stays faulted with the same cause, group bit and FAULT_CMD; of its FAULT only
DROP can rise. -/
def Obligations.FaultStaysUntilReset : Prop :=
  ∀ s s' : State, s.faulted = true → s.nextTurn ≠ .tileReset → step s = .next s' →
    s'.faulted = true ∧ s'.faultCmd = s.faultCmd ∧ (s'.fault = s.fault ∨ s'.fault = s.fault ||| 0x00000080#32)

/-- R124: while faulted CONV, CTRL_SEQ and READER have no step, so a step leaves every element as it is, but that FAULT.DROP may
rise, or is an accepted DISABLE_ALL, which leaves FAULT as it is. Turns and queues are the model's (log entries 4 and 6). -/
def Obligations.FaultedBlockIsFrozen : Prop :=
  ∀ s s' : State, s.faulted = true → s.nextTurn ≠ .tileReset → step s = .next s' →
    (s' = { s with fault := s'.fault, history := s'.history, env := s'.env } ∧
      (s'.fault = s.fault ∨ s'.fault = s.fault ||| 0x00000080#32)) ∨
    ((∃ h rest, s.nextTurn = .agent (.host h) ∧ (s.host h).todo = s.commandWrite .ctrl 0x00000002#32 :: rest) ∧
      s' = { s with
        enabled := false, config := 0#32, chptr := 0#3, pktcnt := 0#3, pend := 0#3, fifo := [], rdPos := 0#3
        rdBusy := false, rdOp := .none, rdWord := 0#32, rdIdx := 0#3, ctrlWord := 0#32
        history := s'.history, env := s'.env })

/-- R94, R96, R107, R110, R113, R129: in mode DISABLED the five sampling and reading commands raise cause 0x6 with their own
word, before anything else. -/
def Obligations.CommandsFaultWhileDisabled : Prop :=
  ∀ s : State, s.faulted = false → s.enabled = false →
    ∀ i ∈ [Instr.trigger, .triggerPacket, .read, .readPacket, .tryRead],
      exec i s = .next (s.faultEnter .seqNotEnabled (encode i))

/-! ## ENABLE and DISABLE_ALL (41_enable_calibration.md) -/

/-- R79: the two checks in their order; CAL is no operand of them. -/
def Obligations.ValidationOrder : Prop :=
  ∀ (ch : ChMask) (bps : BitVec 2) (spp : Nat),
    let count := ((List.range 8).filter fun i => ch.getLsbD i).length
    (spp < 1 ∨ min 5 count < spp → validate ch bps spp = some .cfgSpp) ∧
    (1 ≤ spp ∧ spp ≤ min 5 count ∧ bps = 2#2 → validate ch bps spp = some .cfgBps) ∧
    (1 ≤ spp ∧ spp ≤ min 5 count ∧ (bps = 0#2 ∨ bps = 1#2 ∨ bps = 3#2) → validate ch bps spp = none) ∧
    (ch = 0#8 ∨ spp = 0 ∨ spp = 6 ∨ spp = 7 → validate ch bps spp = some .cfgSpp)

/-- R80: a failed validation raises its cause and changes nothing else; no pulse is issued. -/
def Obligations.InvalidEnableOnlyFaults : Prop :=
  ∀ (ch : ChMask) (bps : BitVec 2) (spp : Nat) (cal : Bool) (c : Cause) (s : State),
    s.faulted = false → validate ch bps spp = some c →
    ∃ t, exec (.enable ch bps spp cal) s = .next t ∧ t = s.faultEnter c (encode (.enable ch bps spp cal)) ∧
      t.config = s.config ∧ t.enabled = s.enabled ∧ t.chptr = s.chptr ∧ t.fifo = s.fifo ∧ t.pulseCount = s.pulseCount

/-- R82: a valid ENABLE with outstanding work raises cause 0x7. Control tokens alone are no outstanding work. -/
def Obligations.BusyEnableFaults : Prop :=
  ∀ (ch : ChMask) (bps : BitVec 2) (spp : Nat) (cal : Bool) (s : State),
    s.faulted = false → validate ch bps spp = none →
    (∃ w, .data w ∈ s.fifo) ∨ s.pend ≠ 0#3 ∨ s.rdBusy = true →
    exec (.enable ch bps spp cal) s = .next (s.faultEnter .seqBusy (encode (.enable ch bps spp cal)))

/-- R81, R83, R84: a valid ENABLE without outstanding work programs the block, with six calibration pulses, and changes nothing
else. -/
def Obligations.EnableProgramsAndCalibrates : Prop :=
  ∀ (ch : ChMask) (bps : BitVec 2) (spp : Nat) (cal : Bool) (s : State),
    s.faulted = false → 1 ≤ spp → spp ≤ min 5 ((List.range 8).filter fun i => ch.getLsbD i).length → bps ≠ 2#2 →
    (∀ x ∈ s.fifo, ∃ c, x = .ctrl c) → s.pend = 0#3 → s.rdBusy = false →
    ∃ low : BitVec 3, ch.getLsbD low.toNat = true ∧ (∀ j, j < low.toNat → ch.getLsbD j = false) ∧
      exec (.enable ch bps spp cal) s = .next
        { s with
          config := BitVec.ofNat 32 (ch.toNat * 2 ^ 8 + bps.toNat * 2 ^ 16 + spp * 2 ^ 20 + cal.toNat * 2 ^ 24)
          enabled := true, fifo := [], pend := 0#3, pktcnt := 0#3, rdPos := 0#3, chptr := low
          trig := false, pulseCount := s.pulseCount + 6#32
          history := List.replicate 6 (.pulse .cal) ++ s.history }

/-- R87, R134: DISABLE_ALL of a block that is faulted or has no outstanding work writes its constants and nothing else; and where
the control port accepts, everything but SAMPLE, RD_VALID, PKT_BUF, PULSE_COUNT, FAULT and FAULT_CMD returns to its reset value.
That CTRL_BUSY, CTRL_OP, TP_REM and TRIG are not written in a state whose control port is busy is the model's choice (log entry
12). -/
def Obligations.DisableAllPowersDown : Prop :=
  ∀ s : State,
    (s.faulted = true ∨ s.outstanding = false →
      exec .disableAll s = .next
        { s with
          enabled := false, config := 0#32, chptr := 0#3, pktcnt := 0#3, pend := 0#3, fifo := [], rdPos := 0#3
          rdBusy := false, rdOp := .none, rdWord := 0#32, rdIdx := 0#3, ctrlWord := 0#32 }) ∧
    (s.WellBehaved → s.ctrlBusy = false →
      ∃ t, exec .disableAll s = .next t ∧
        t = { State.reset with
          sample := s.sample, rdValid := s.rdValid, pktBuf := s.pktBuf, pulseCount := s.pulseCount
          fault := t.fault, faultCmd := t.faultCmd, history := t.history, params := s.params, env := s.env })

/-- R88, R134: with outstanding work and no fault, SEQ_BUSY is recorded with the DISABLE_ALL word and the power-down still happens,
RD_WORD and CTRL_WORD returning to 0 with the rest. -/
def Obligations.BusyDisableAllFaultsAndPowersDown : Prop :=
  ∀ s : State, s.faulted = false → 0 < dataCount s.fifo ∨ s.pend ≠ 0#3 ∨ s.rdBusy = true →
    exec .disableAll s = .next
      { s.faultEnter .seqBusy 0x00000002#32 with
        enabled := false, config := 0#32, chptr := 0#3, pktcnt := 0#3, pend := 0#3, fifo := [], rdPos := 0#3
        rdBusy := false, rdOp := .none, rdWord := 0#32, rdIdx := 0#3, ctrlWord := 0#32 }

/-- R89: two DISABLE_ALL commands in succession leave the same state as one, and what the first leaves. -/
def Obligations.DisableAllIdempotent : Prop :=
  ∀ s : State, ∃ t, exec .disableAll s = .next t ∧ exec .disableAll t = .next t ∧
    t.enabled = false ∧ t.config = 0#32 ∧ t.chptr = 0#3 ∧ t.pktcnt = 0#3 ∧ t.pend = 0#3 ∧ t.rdPos = 0#3 ∧
    t.fifo = [] ∧ t.rdBusy = false

/-- R90: a failed ENABLE then DISABLE_ALL equals DISABLE_ALL alone, in every element but FAULT and FAULT_CMD (and the model's
history). With outstanding work the two FAULT values differ. The state is one in which the control port accepts. -/
def Obligations.FailedEnableInvisibleToDisable : Prop :=
  ∀ (ch : ChMask) (bps : BitVec 2) (spp : Nat) (cal : Bool) (s : State),
    s.WellBehaved → s.faulted = false → s.ctrlBusy = false → validate ch bps spp ≠ none →
    ∃ t u v, exec (.enable ch bps spp cal) s = .next t ∧ exec .disableAll t = .next u ∧ exec .disableAll s = .next v ∧
      u = { v with fault := u.fault, faultCmd := u.faultCmd, history := u.history } ∧
      (s.outstanding = true → (u.fault = 0x402#32 ∨ u.fault = 0x502#32) ∧ v.fault = 0x704#32)

/-! ## Triggers (42_trigger.md) -/

/-- R93, R94: TRIGGER below the ceiling pulses and queues one conversion, and changes nothing else. -/
def Obligations.TriggerQueuesConversion : Prop :=
  ∀ s : State, s.faulted = false → s.enabled = true → s.occ < 5 →
    exec .trigger s = .next
      { s with
        trig := false, pulseCount := s.pulseCount + 1#32, pend := s.pend + 1#3, history := .pulse .sample :: s.history }

/-- R93, R121: TRIGGER at the ceiling still pulses, queues nothing and raises cause 0x8. -/
def Obligations.TriggerAtCeilingOverruns : Prop :=
  ∀ s : State, s.faulted = false → s.enabled = true → 5 ≤ s.occ →
    exec .trigger s = .next
      (({ s with
          trig := false, pulseCount := s.pulseCount + 1#32, history := .pulse .sample :: s.history }).faultEnter
        .overrun 0x00000003#32)

/-- R96: TRIGGER_PACKET starts its S pulses and changes nothing else. -/
def Obligations.TriggerPacketStarts : Prop :=
  ∀ s : State, s.faulted = false → s.enabled = true →
    exec .triggerPacket s = .next
      { s with
        ctrlOp := .triggerPacket, ctrlWord := 0x00000004#32, tpRem := s.config.extractLsb' 20 3, ctrlBusy := true }

/-- R97: when CTRL_SEQ has a step and what it does, an overrun included, which records CTRL_WORD. That CTRL_WORD is kept when the
port becomes idle is the model's reading (log entry 12, DEDUCED). -/
def Obligations.CtrlSeqStepPulses : Prop :=
  ∀ s : State,
    (s.agentEnabled .ctrlSeq = true ↔ s.ctrlBusy = true ∧ s.faulted = false) ∧
    (s.occ < 5 → agentStep .ctrlSeq s = .next
      { s with
        tpRem := s.tpRem - 1#3, trig := false, pulseCount := s.pulseCount + 1#32, pend := s.pend + 1#3
        history := .pulse .sample :: s.history
        ctrlBusy := if s.tpRem = 1#3 then false else s.ctrlBusy
        ctrlOp := if s.tpRem = 1#3 then .none else s.ctrlOp }) ∧
    (5 ≤ s.occ → agentStep .ctrlSeq s = .next
      (({ s with
          trig := false, pulseCount := s.pulseCount + 1#32, history := .pulse .sample :: s.history }).faultEnter
        .overrun s.ctrlWord))

/-- R98: a TRIGGER_PACKET with room for its S words issues exactly S pulses, queues S conversions and ends, with no fault. The
steps of CONV and READER that may fall between are not in it; that CTRL_WORD is kept when the port becomes idle is the model's
reading (log entry 12, DEDUCED). -/
def Obligations.TriggerPacketIssuesItsPulses : Prop :=
  ∀ s : State, s.faulted = false → s.enabled = true → 1 ≤ s.spp → s.occ + s.spp ≤ 5 →
    (s.after .triggerPacket).afterCtrlSeq s.spp =
      { s with
        trig := false, pulseCount := s.pulseCount + BitVec.ofNat 32 s.spp, pend := s.pend + BitVec.ofNat 3 s.spp
        ctrlBusy := false, ctrlOp := .none, ctrlWord := 0x00000004#32, tpRem := 0#3
        history := List.replicate s.spp (.pulse .sample) ++ s.history }

/-! ## Conversions (43_packet_channel.md) -/

/-- R103: the word is the raw value scaled from ADC_RES bits to W bits: its top W bits, or the value followed by zeros. -/
def Obligations.JustifyScales : Prop :=
  ∀ (res w : Nat) (raw : Word), 1 ≤ res → res ≤ 32 → w ∈ [8, 16, 32] →
    (justify res w raw).toNat = raw.toNat % 2 ^ res * 2 ^ w / 2 ^ res

/-- R101: when CONV has a step, and what it does with the draw: one Data item, the END token after the S-th word, and the
pointers; it changes nothing else. Where the draw comes from is the model's choice (log entry 5). -/
def Obligations.ConvStepPushesWord : Prop :=
  ∀ (s : State) (raw : Word),
    let item : WireItem := .data (justify s.params.adcRes s.width raw)
    let token : WireItem := .ctrl s.params.endCode
    (s.agentEnabled .conv = true ↔ s.enabled = true ∧ s.faulted = false ∧ s.pend ≠ 0#3) ∧
    (agentStep .conv s = .next (s.consumeDraw.convStep s.nextDraw)) ∧
    (s.pktcnt.toNat + 1 = s.spp → s.convStep raw =
      { s with
        fifo := s.fifo ++ [item, token], pend := s.pend - 1#3, chptr := nextEnabled s.chEn s.chptr, pktcnt := 0#3
        history := .push token :: .push item :: s.history }) ∧
    (s.pktcnt.toNat + 1 ≠ s.spp → s.convStep raw =
      { s with
        fifo := s.fifo ++ [item], pend := s.pend - 1#3, chptr := nextEnabled s.chEn s.chptr, pktcnt := s.pktcnt + 1#3
        history := .push item :: s.history })

/-- R21: `next_enabled` is the smallest set index above `i`, or the lowest set index when there is none. -/
def Obligations.NextEnabledIsCyclicSuccessor : Prop :=
  ∀ (m : ChMask) (i : BitVec 3), m ≠ 0#8 →
    m.getLsbD (nextEnabled m i).toNat = true ∧
    ((∃ j, i.toNat < j ∧ m.getLsbD j = true) →
      i.toNat < (nextEnabled m i).toNat ∧ ∀ j, i.toNat < j → j < (nextEnabled m i).toNat → m.getLsbD j = false) ∧
    ((∀ j, i.toNat < j → m.getLsbD j = false) → ∀ j, j < (nextEnabled m i).toNat → m.getLsbD j = false)

/-- R104: the k-th conversion after ENABLE samples channel `e[k mod C]`, the set bits of CH_EN in ascending order. -/
def Obligations.ChannelsRotateInOrder : Prop :=
  ∀ (m : ChMask) (k : Nat), m ≠ 0#8 →
    let e := (List.range 8).filter fun i => m.getLsbD i
    ((nextEnabled m)^[k] (lowestSet m)).toNat = e.getD (k % e.length) 0

/-! ## Reading (44_sample_reader.md) -/

/-- R107: READ starts and changes nothing else. -/
def Obligations.ReadStarts : Prop :=
  ∀ s : State, s.faulted = false → s.enabled = true →
    exec .read s = .next { s with rdOp := .read, rdWord := 0x00000008#32, rdValid := false, rdBusy := true }

/-- R108: when READER has a step of any kind, and what it does in a READ with a token and with a data word at the head; with no
command or an empty FIFO it holds. That RD_WORD is kept when the READ ends is the model's reading (log entry 12, DEDUCED), and the
container of a word is its form (log entry 11). -/
def Obligations.ReadStepDelivers : Prop :=
  ∀ s : State,
    (s.agentEnabled .reader = true ↔ s.rdOp ≠ .none ∧ s.faulted = false ∧ s.fifo ≠ []) ∧
    (s.rdOp = .read → ∀ c rest, s.fifo = .ctrl c :: rest → agentStep .reader s = .next
      { s with fifo := rest, rdPos := 0#3, history := .pop (.ctrl c) :: s.history }) ∧
    (s.rdOp = .read → ∀ w rest, s.fifo = .data w :: rest → agentStep .reader s = .next
      { s with
        fifo := rest, sample := lowBits s.width w, rdValid := true, rdPos := s.rdPos + 1#3, rdBusy := false
        rdOp := .none
        history := .deliver .sample (lowBits s.width w) :: .pop (.data w) :: s.history })

/-- R110: READ_PACKET at a packet boundary starts; off it, it raises cause 0xB. -/
def Obligations.ReadPacketStarts : Prop :=
  ∀ s : State, s.faulted = false → s.enabled = true →
    (s.rdPos = 0#3 → exec .readPacket s = .next
      { s with rdOp := .readPacket, rdWord := 0x00000009#32, rdIdx := 0#3, rdBusy := true }) ∧
    (s.rdPos ≠ 0#3 → exec .readPacket s = .next (s.faultEnter .protoMisaligned 0x00000009#32))

/-- R111: when READER has a step of any kind, and what it does in a READ_PACKET: a data word or the trailing token taken when it is
due, and the two protocol faults, which pop nothing. That an index above 4 writes no entry and that RD_WORD is kept when the
command ends are the model's (log entries 10 and 12, DEDUCED), and so is the container of a word (log entry 11). -/
def Obligations.ReadPacketStepTakesItem : Prop :=
  ∀ s : State,
    (s.agentEnabled .reader = true ↔ s.rdOp ≠ .none ∧ s.faulted = false ∧ s.fifo ≠ []) ∧
    (s.rdOp = .readPacket → s.rdIdx.toNat < s.spp → ∀ w rest, s.fifo = .data w :: rest → agentStep .reader s = .next
      { s with
        fifo := rest, pktBuf := s.pktBuf.setIfInBounds s.rdIdx.toNat (lowBits s.width w)
        rdIdx := s.rdIdx + 1#3, rdPos := s.rdPos + 1#3
        history := .deliver (.pktBuf s.rdIdx.toNat) (lowBits s.width w) :: .pop (.data w) :: s.history }) ∧
    (s.rdOp = .readPacket → s.rdIdx.toNat < s.spp → ∀ c rest, s.fifo = .ctrl c :: rest →
      agentStep .reader s = .next (s.faultEnter .protoCtrlInData s.rdWord)) ∧
    (s.rdOp = .readPacket → s.spp ≤ s.rdIdx.toNat → ∀ w rest, s.fifo = .data w :: rest →
      agentStep .reader s = .next (s.faultEnter .protoDataAtTrailer s.rdWord)) ∧
    (s.rdOp = .readPacket → s.spp ≤ s.rdIdx.toNat → ∀ c rest, s.fifo = .ctrl c :: rest → agentStep .reader s = .next
      { s with
        fifo := rest, rdPos := 0#3, rdIdx := 0#3, rdBusy := false, rdOp := .none
        history := .pop (.ctrl c) :: s.history })

/-- R113: TRY_READ absorbs the control tokens at the head, then delivers the next data word, or returns None. The container
of a word is the model's form (log entry 11). -/
def Obligations.TryReadResult : Prop :=
  ∀ (s : State) (codes : List Byte), s.faulted = false → s.enabled = true →
    let absorbed := (codes.map fun c => Event.pop (.ctrl c)).reverse
    let pos := if codes = [] then s.rdPos else 0#3
    (∀ w rest, s.fifo = codes.map WireItem.ctrl ++ .data w :: rest → exec .tryRead s = .next
      { s with
        fifo := rest, sample := lowBits s.width w, rdValid := true, rdPos := pos + 1#3
        history := .deliver .sample (lowBits s.width w) :: .pop (.data w) :: (absorbed ++ s.history) }) ∧
    (s.fifo = codes.map WireItem.ctrl → exec .tryRead s = .next
      { s with fifo := [], rdPos := pos, rdValid := false, history := absorbed ++ s.history })

/-- R117: a READ accepted while DATA_READY = 1 completes within two READER steps and never holds. -/
def Obligations.ReadyReadCompletesInTwoSteps : Prop :=
  ∀ s : State, s.WellBehaved → s.rdBusy = false → s.dataReady = true →
    (s.after .read).readerEnabled = true ∧
    ((s.after .read).readerStep.rdBusy = false ∨
      ((s.after .read).readerStep.readerEnabled = true ∧ ((s.after .read).afterReader 2).rdBusy = false)) ∧
    s.readToEnd.rdValid = true ∧ s.readToEnd.faulted = false

/-- R117, R110: a READ_PACKET accepted while PKT_READY = 1 takes S + 1 READER steps, none of which holds, and leaves the first S
words of the FIFO in PKT_BUF[0..S-1], the other entries as they were. -/
def Obligations.ReadyReadPacketCompletes : Prop :=
  ∀ s : State, s.WellBehaved → s.rdBusy = false → s.pktReady = true →
    (∀ k, k ≤ s.spp → ((s.after .readPacket).afterReader k).readerEnabled = true) ∧
    ((s.after .readPacket).afterReader (s.spp + 1)).rdBusy = false ∧
    ((s.after .readPacket).afterReader (s.spp + 1)).faulted = false ∧
    ((s.after .readPacket).afterReader (s.spp + 1)).rdPos = 0#3 ∧
    ∃ (words : List Word) (c : Byte) (rest : List WireItem), words.length = s.spp ∧
      s.fifo = words.map WireItem.data ++ .ctrl c :: rest ∧
      ((s.after .readPacket).afterReader (s.spp + 1)).fifo = rest ∧
      ∀ i : Fin 5, ((s.after .readPacket).afterReader (s.spp + 1)).pktBuf[i] = words.getD i.val s.pktBuf[i]

/-- R115: from an idle enabled block, N TRIGGERs, N conversions and N READs, N ≤ 5, in this order, deliver the justified
conversions in order; after each READ RD_VALID is 1 and there is no fault. A sixth TRIGGER before any READ overruns. -/
def Obligations.SequenceProperty : Prop :=
  ∀ (s : State) (raws : List Word), s.WellBehaved → s.enabled = true → s.faulted = false → s.rdBusy = false →
    s.occ = 0 → s.rdPos = 0#3 →
    (raws.length ≤ 5 →
      let t := (s.afterTriggers raws.length).afterConversions raws
      t.readSamples raws.length = raws.map s.deliveredValue ∧ t.faulted = false ∧
      ∀ k, k < raws.length → (t.afterReads (k + 1)).rdValid = true ∧ (t.afterReads (k + 1)).faulted = false) ∧
    (s.afterTriggers 5).faulted = false ∧ (s.afterTriggers 6).fault = 0x00000808#32

/-- R116: from an idle enabled block at a packet boundary, TRIGGER_PACKET, its pulses and conversions, then READ_PACKET leave
PKT_BUF[0..S-1] with the S conversions in order, the FIFO empty and both sides at a packet boundary, with no fault. A READ then
holds. -/
def Obligations.PacketIntegrity : Prop :=
  ∀ (s : State) (raws : List Word), s.WellBehaved → s.enabled = true → s.faulted = false → s.ctrlBusy = false →
    s.rdBusy = false → s.occ = 0 → s.rdPos = 0#3 → s.pktcnt = 0#3 → raws.length = s.spp →
    let t := (((s.after .triggerPacket).afterCtrlSeq s.spp).afterConversions raws).after .readPacket
    let u := t.afterReader (s.spp + 1)
    (∀ i : Fin 5, u.pktBuf[i] = (raws.map s.deliveredValue).getD i.val s.pktBuf[i]) ∧
    u.fifo = [] ∧ u.rdPos = 0#3 ∧ u.pktcnt = 0#3 ∧ u.rdBusy = false ∧ u.ctrlBusy = false ∧ u.faulted = false ∧
    (u.after .read).rdBusy = true ∧ (u.after .read).readerEnabled = false

/-- R114, R41: a sampling pulse, of TRIGGER or of CTRL_SEQ, moves IDLE to AWAITING_SAMPLES; a data word consumed, by READER or by
TRY_READ, moves to DRAINING; the boundary token consumed or absorbed leaves DRAINING; ENABLE and DISABLE_ALL return to IDLE. -/
def Obligations.ConsumerStateMoves : Prop :=
  ∀ s : State, s.WellBehaved → s.faulted = false →
    (s.enabled = true → s.rdState = .idle → (s.after .trigger).rdState = .awaitingSamples) ∧
    (s.agentEnabled .ctrlSeq = true → s.rdState = .idle → s.ctrlSeqStep.rdState = .awaitingSamples) ∧
    (s.enabled = true → ∀ w rest, s.fifo = .data w :: rest →
      (s.rdOp ≠ .none → s.readerStep.rdState = .draining) ∧ (s.after .tryRead).rdState = .draining) ∧
    (s.enabled = true → ∀ c rest, s.fifo = .ctrl c :: rest →
      s.rdState = .draining ∧
      (s.rdOp ≠ .none → s.readerStep.rdState = if 0 < s.occ then .awaitingSamples else .idle) ∧
      (rest = [] → (s.after .tryRead).rdState = if 0 < s.occ then .awaitingSamples else .idle) ∧
      (rest ≠ [] → (s.after .tryRead).rdState = .draining)) ∧
    (∀ ch bps spp cal, validate ch bps spp = none → s.outstanding = false →
      (s.after (.enable ch bps spp cal)).rdState = .idle) ∧
    (s.after .disableAll).rdState = .idle

/-! ## Invariants and whole-machine rules -/

/-- Every step keeps everything the spec says of a reachable state (R29 to R46, R112, R122). -/
def Obligations.StepKeepsWellBehaved : Prop :=
  ∀ s s' : State, s.WellBehaved → step s = .next s' → s'.WellBehaved

/-- The reset state is well-behaved (R23, R135). -/
def Obligations.ResetIsWellBehaved : Prop := State.reset.WellBehaved

/-- R136, R137: after reset every register reads 0, the outputs are 0, the mode is DISABLED and no agent of the block has a
step. -/
def Obligations.ResetRegistersAndOutputs : Prop :=
  (∀ k, k < 16 → State.reset.readRegister (registerAt k) = 0#32) ∧
  State.reset.trig = false ∧ State.reset.irqFault = false ∧ State.reset.dataReady = false ∧ State.reset.pktReady = false ∧
  State.reset.mode = .disabled ∧ State.reset.fifo = [] ∧ State.reset.history = [] ∧
  State.reset.agentEnabled .ctrlSeq = false ∧ State.reset.agentEnabled .conv = false ∧
  State.reset.agentEnabled .reader = false

/-- R135, R136: the tile reset sets every element to its reset value, keeps the parameters and loses the host accesses not
performed. That a reset is a turn, and what it keeps of the environment, is the model's choice (log entry 8). -/
def Obligations.TileResetClearsTheBlock : Prop :=
  ∀ s : State, s.nextTurn = .tileReset →
    ∃ s', step s = .next s' ∧ s' = { State.reset with params := s.params, env := s'.env } ∧
      s'.env.ctrlHost.todo = [] ∧ s'.env.rdHost.todo = []

/-- R35: the FIFO never holds more than 11 items, of which at most 5 are Data items. -/
def Obligations.FifoHoldsAtMostEleven : Prop :=
  ∀ s : State, s.WellBehaved → s.fifo.length ≤ 11 ∧ dataCount s.fifo ≤ 5

/-- R36, R40: two Ctrl items are never adjacent; at RD_POS = 0 no Ctrl item is at the head; at RD_POS = S a Ctrl item is at the
head. -/
def Obligations.TokensFrameThePackets : Prop :=
  ∀ s : State, s.WellBehaved → s.enabled = true →
    (∀ pre c d rest, s.fifo ≠ pre ++ .ctrl c :: .ctrl d :: rest) ∧
    (s.rdPos = 0#3 → ∀ c rest, s.fifo ≠ .ctrl c :: rest) ∧
    (s.rdPos.toNat = s.spp → ∃ c rest, s.fifo = .ctrl c :: rest)

/-- R112: the item a READ_PACKET in progress meets is the one that is due, so the causes 0x9 and 0xA do not occur. -/
def Obligations.ReadPacketMeetsDueItem : Prop :=
  ∀ s : State, s.WellBehaved → s.rdOp = .readPacket →
    (∀ c rest, s.fifo = .ctrl c :: rest → s.rdIdx.toNat = s.spp) ∧
    (∀ w rest, s.fifo = .data w :: rest → s.rdIdx.toNat < s.spp) ∧
    ∀ s', step s = .next s' → s'.fault.extractLsb' 8 4 ≠ 0x9#4 ∧ s'.fault.extractLsb' 8 4 ≠ 0xA#4

/-- R33, R99: items enter the FIFO only at the tail, by CONV, which pushes one word and perhaps the END token; they leave it only
from the head: READER pops one, TRY_READ the tokens at the head and then one data word; ENABLE, DISABLE_ALL and the tile reset
discard them all. No other step touches the FIFO. Turns are the model's form of the interleaving (log entries 4, 6 and 8). -/
def Obligations.FifoIsInOrder : Prop :=
  ∀ s s' : State, step s = .next s' →
    (s.nextTurn = .tileReset → s'.fifo = []) ∧
    (s.nextTurn = .agent .conv → s'.fifo = s.fifo ∨ ∃ w,
      s'.fifo = s.fifo ++ [.data w] ∨ s'.fifo = s.fifo ++ [.data w, .ctrl s.params.endCode]) ∧
    (s.nextTurn = .agent .reader → s'.fifo = s.fifo ∨ ∃ x, s.fifo = x :: s'.fifo) ∧
    (s.nextTurn = .agent .ctrlSeq → s'.fifo = s.fifo) ∧
    (∀ h, s.nextTurn = .agent (.host h) → s'.fifo = s.fifo ∨
      ∃ p v rest i, (s.host h).todo = s.commandWrite p v :: rest ∧ decode p v = .ok i ∧
        ((i = .tryRead ∧ ∃ codes : List Byte, s.fifo = codes.map WireItem.ctrl ++ s'.fifo ∨
            ∃ w, s.fifo = codes.map WireItem.ctrl ++ .data w :: s'.fifo) ∨
          ((i = .disableAll ∨ ∃ ch bps spp cal, i = .enable ch bps spp cal) ∧ s'.fifo = [])))

/-- R27, R29, R129: ENABLED and CONFIG change only in a step that accepts an ENABLE or the DISABLE_ALL word, or in a tile
reset. -/
def Obligations.OnlyEnableAndDisableChangeConfig : Prop :=
  ∀ s s' : State, step s = .next s' → s.nextTurn ≠ .tileReset → s'.enabled ≠ s.enabled ∨ s'.config ≠ s.config →
    ∃ h v rest i, s.nextTurn = .agent (.host h) ∧
      ((s.host h).todo = .write 4 s.params.adcBase v :: rest) ∧ decode .ctrl v = .ok i ∧ s.ctrlBusy = false ∧
      (i = .disableAll ∨ ∃ ch bps spp cal, i = .enable ch bps spp cal ∧ s.faulted = false)

/-- R25, R42, R43: SAMPLE and PKT_BUF change only in a READER step, in a step that accepts a TRY_READ, or in a tile reset. -/
def Obligations.OnlyReaderWritesDataRegisters : Prop :=
  ∀ s s' : State, step s = .next s' → s'.sample ≠ s.sample ∨ s'.pktBuf ≠ s.pktBuf →
    s.nextTurn = .tileReset ∨ s.nextTurn = .agent .reader ∨
    ∃ h rest, s.nextTurn = .agent (.host h) ∧
      (s.host h).todo = .write 4 (s.params.adcBase + 4) 0x0000000A#32 :: rest ∧ s'.pktBuf = s.pktBuf

/-- R140, R97: in a run in which CTRL_SEQ is weakly fair, every TRIGGER_PACKET in progress ends. A turn of an
agent that has no step is the model's own (log entry 4). -/
def Obligations.FairTriggerPacketEnds : Prop :=
  ∀ (r : Nat → State) (n : Nat), IsRun r → WeaklyFair r .ctrlSeq → (r n).WellBehaved → (r n).ctrlBusy = true →
    ∃ m, n ≤ m ∧ (r m).ctrlBusy = false

/-- R106: in a run in which CONV is weakly fair, every conversion pending is performed, each pushing one word, unless the block is
first disabled, faulted or reset. A turn of an agent that has no step is the model's own (log entry 4). -/
def Obligations.FairConversionHappens : Prop :=
  ∀ (r : Nat → State) (n : Nat), IsRun r → WeaklyFair r .conv → (r n).WellBehaved →
    (∀ m, StepsAt r .conv m → dataCount (r (m + 1)).fifo = dataCount (r m).fifo + 1) ∧
    ∃ k, (r n).pend.toNat ≤ stepCount r .conv n k ∨
      (r (n + k)).enabled = false ∨ (r (n + k)).faulted = true ∨ (r (n + k)).nextTurn = .tileReset

/-- R58: each host agent's accesses are performed in its program order, one at a time; a tile reset loses those not performed. That
the accesses and the reset are data of the model is its choice (log entries 6 and 8). -/
def Obligations.HostAccessesKeepTheirOrder : Prop :=
  ∀ (s s' : State) (h : HostAgent), step s = .next s' →
    (s'.host h).todo = (s.host h).todo ∨
    (s.nextTurn = .agent (.host h) ∧ ∃ a, (s.host h).todo = a :: (s'.host h).todo) ∨
    (s.nextTurn = .tileReset ∧ (s'.host h).todo = [])
end

