-- ==== Sys2Proof/Laws/State.lean ====
section
/-! SUPPORT. One lemma per field per named update of the state, so that no proof unfolds a record update. -/

namespace Sys2Proof.Machine

variable (s : State)

/-! ## `State.record` -/

@[simp] theorem State.record_enabled (e : Event) : (s.record e).enabled = s.enabled := rfl
@[simp] theorem State.record_config (e : Event) : (s.record e).config = s.config := rfl
@[simp] theorem State.record_chptr (e : Event) : (s.record e).chptr = s.chptr := rfl
@[simp] theorem State.record_pktcnt (e : Event) : (s.record e).pktcnt = s.pktcnt := rfl
@[simp] theorem State.record_pend (e : Event) : (s.record e).pend = s.pend := rfl
@[simp] theorem State.record_fifo (e : Event) : (s.record e).fifo = s.fifo := rfl
@[simp] theorem State.record_ctrlBusy (e : Event) : (s.record e).ctrlBusy = s.ctrlBusy := rfl
@[simp] theorem State.record_ctrlOp (e : Event) : (s.record e).ctrlOp = s.ctrlOp := rfl
@[simp] theorem State.record_ctrlWord (e : Event) : (s.record e).ctrlWord = s.ctrlWord := rfl
@[simp] theorem State.record_tpRem (e : Event) : (s.record e).tpRem = s.tpRem := rfl
@[simp] theorem State.record_rdBusy (e : Event) : (s.record e).rdBusy = s.rdBusy := rfl
@[simp] theorem State.record_rdOp (e : Event) : (s.record e).rdOp = s.rdOp := rfl
@[simp] theorem State.record_rdWord (e : Event) : (s.record e).rdWord = s.rdWord := rfl
@[simp] theorem State.record_rdIdx (e : Event) : (s.record e).rdIdx = s.rdIdx := rfl
@[simp] theorem State.record_rdPos (e : Event) : (s.record e).rdPos = s.rdPos := rfl
@[simp] theorem State.record_sample (e : Event) : (s.record e).sample = s.sample := rfl
@[simp] theorem State.record_rdValid (e : Event) : (s.record e).rdValid = s.rdValid := rfl
@[simp] theorem State.record_pktBuf (e : Event) : (s.record e).pktBuf = s.pktBuf := rfl
@[simp] theorem State.record_pulseCount (e : Event) : (s.record e).pulseCount = s.pulseCount := rfl
@[simp] theorem State.record_fault (e : Event) : (s.record e).fault = s.fault := rfl
@[simp] theorem State.record_faultCmd (e : Event) : (s.record e).faultCmd = s.faultCmd := rfl
@[simp] theorem State.record_trig (e : Event) : (s.record e).trig = s.trig := rfl
@[simp] theorem State.record_history (e : Event) : (s.record e).history = e :: s.history := rfl
@[simp] theorem State.record_params (e : Event) : (s.record e).params = s.params := rfl
@[simp] theorem State.record_env (e : Event) : (s.record e).env = s.env := rfl

/-! ## `State.pushItem` -/

@[simp] theorem State.pushItem_enabled (x : WireItem) : (s.pushItem x).enabled = s.enabled := rfl
@[simp] theorem State.pushItem_config (x : WireItem) : (s.pushItem x).config = s.config := rfl
@[simp] theorem State.pushItem_chptr (x : WireItem) : (s.pushItem x).chptr = s.chptr := rfl
@[simp] theorem State.pushItem_pktcnt (x : WireItem) : (s.pushItem x).pktcnt = s.pktcnt := rfl
@[simp] theorem State.pushItem_pend (x : WireItem) : (s.pushItem x).pend = s.pend := rfl
@[simp] theorem State.pushItem_fifo (x : WireItem) : (s.pushItem x).fifo = s.fifo ++ [x] := rfl
@[simp] theorem State.pushItem_ctrlBusy (x : WireItem) : (s.pushItem x).ctrlBusy = s.ctrlBusy := rfl
@[simp] theorem State.pushItem_ctrlOp (x : WireItem) : (s.pushItem x).ctrlOp = s.ctrlOp := rfl
@[simp] theorem State.pushItem_ctrlWord (x : WireItem) : (s.pushItem x).ctrlWord = s.ctrlWord := rfl
@[simp] theorem State.pushItem_tpRem (x : WireItem) : (s.pushItem x).tpRem = s.tpRem := rfl
@[simp] theorem State.pushItem_rdBusy (x : WireItem) : (s.pushItem x).rdBusy = s.rdBusy := rfl
@[simp] theorem State.pushItem_rdOp (x : WireItem) : (s.pushItem x).rdOp = s.rdOp := rfl
@[simp] theorem State.pushItem_rdWord (x : WireItem) : (s.pushItem x).rdWord = s.rdWord := rfl
@[simp] theorem State.pushItem_rdIdx (x : WireItem) : (s.pushItem x).rdIdx = s.rdIdx := rfl
@[simp] theorem State.pushItem_rdPos (x : WireItem) : (s.pushItem x).rdPos = s.rdPos := rfl
@[simp] theorem State.pushItem_sample (x : WireItem) : (s.pushItem x).sample = s.sample := rfl
@[simp] theorem State.pushItem_rdValid (x : WireItem) : (s.pushItem x).rdValid = s.rdValid := rfl
@[simp] theorem State.pushItem_pktBuf (x : WireItem) : (s.pushItem x).pktBuf = s.pktBuf := rfl
@[simp] theorem State.pushItem_pulseCount (x : WireItem) : (s.pushItem x).pulseCount = s.pulseCount := rfl
@[simp] theorem State.pushItem_fault (x : WireItem) : (s.pushItem x).fault = s.fault := rfl
@[simp] theorem State.pushItem_faultCmd (x : WireItem) : (s.pushItem x).faultCmd = s.faultCmd := rfl
@[simp] theorem State.pushItem_trig (x : WireItem) : (s.pushItem x).trig = s.trig := rfl
@[simp] theorem State.pushItem_history (x : WireItem) : (s.pushItem x).history = .push x :: s.history := rfl
@[simp] theorem State.pushItem_params (x : WireItem) : (s.pushItem x).params = s.params := rfl
@[simp] theorem State.pushItem_env (x : WireItem) : (s.pushItem x).env = s.env := rfl

/-! ## `State.popTo` -/

@[simp] theorem State.popTo_enabled (x : WireItem) (rest : List WireItem) : (s.popTo x rest).enabled = s.enabled := rfl
@[simp] theorem State.popTo_config (x : WireItem) (rest : List WireItem) : (s.popTo x rest).config = s.config := rfl
@[simp] theorem State.popTo_chptr (x : WireItem) (rest : List WireItem) : (s.popTo x rest).chptr = s.chptr := rfl
@[simp] theorem State.popTo_pktcnt (x : WireItem) (rest : List WireItem) : (s.popTo x rest).pktcnt = s.pktcnt := rfl
@[simp] theorem State.popTo_pend (x : WireItem) (rest : List WireItem) : (s.popTo x rest).pend = s.pend := rfl
@[simp] theorem State.popTo_fifo (x : WireItem) (rest : List WireItem) : (s.popTo x rest).fifo = rest := rfl
@[simp] theorem State.popTo_ctrlBusy (x : WireItem) (rest : List WireItem) : (s.popTo x rest).ctrlBusy = s.ctrlBusy := rfl
@[simp] theorem State.popTo_ctrlOp (x : WireItem) (rest : List WireItem) : (s.popTo x rest).ctrlOp = s.ctrlOp := rfl
@[simp] theorem State.popTo_ctrlWord (x : WireItem) (rest : List WireItem) : (s.popTo x rest).ctrlWord = s.ctrlWord := rfl
@[simp] theorem State.popTo_tpRem (x : WireItem) (rest : List WireItem) : (s.popTo x rest).tpRem = s.tpRem := rfl
@[simp] theorem State.popTo_rdBusy (x : WireItem) (rest : List WireItem) : (s.popTo x rest).rdBusy = s.rdBusy := rfl
@[simp] theorem State.popTo_rdOp (x : WireItem) (rest : List WireItem) : (s.popTo x rest).rdOp = s.rdOp := rfl
@[simp] theorem State.popTo_rdWord (x : WireItem) (rest : List WireItem) : (s.popTo x rest).rdWord = s.rdWord := rfl
@[simp] theorem State.popTo_rdIdx (x : WireItem) (rest : List WireItem) : (s.popTo x rest).rdIdx = s.rdIdx := rfl
@[simp] theorem State.popTo_rdPos (x : WireItem) (rest : List WireItem) : (s.popTo x rest).rdPos = s.rdPos := rfl
@[simp] theorem State.popTo_sample (x : WireItem) (rest : List WireItem) : (s.popTo x rest).sample = s.sample := rfl
@[simp] theorem State.popTo_rdValid (x : WireItem) (rest : List WireItem) : (s.popTo x rest).rdValid = s.rdValid := rfl
@[simp] theorem State.popTo_pktBuf (x : WireItem) (rest : List WireItem) : (s.popTo x rest).pktBuf = s.pktBuf := rfl
@[simp] theorem State.popTo_pulseCount (x : WireItem) (rest : List WireItem) : (s.popTo x rest).pulseCount = s.pulseCount := rfl
@[simp] theorem State.popTo_fault (x : WireItem) (rest : List WireItem) : (s.popTo x rest).fault = s.fault := rfl
@[simp] theorem State.popTo_faultCmd (x : WireItem) (rest : List WireItem) : (s.popTo x rest).faultCmd = s.faultCmd := rfl
@[simp] theorem State.popTo_trig (x : WireItem) (rest : List WireItem) : (s.popTo x rest).trig = s.trig := rfl
@[simp] theorem State.popTo_history (x : WireItem) (rest : List WireItem) : (s.popTo x rest).history = .pop x :: s.history := rfl
@[simp] theorem State.popTo_params (x : WireItem) (rest : List WireItem) : (s.popTo x rest).params = s.params := rfl
@[simp] theorem State.popTo_env (x : WireItem) (rest : List WireItem) : (s.popTo x rest).env = s.env := rfl

/-! ## `State.deliverSample` -/

@[simp] theorem State.deliverSample_enabled (v : Word) : (s.deliverSample v).enabled = s.enabled := rfl
@[simp] theorem State.deliverSample_config (v : Word) : (s.deliverSample v).config = s.config := rfl
@[simp] theorem State.deliverSample_chptr (v : Word) : (s.deliverSample v).chptr = s.chptr := rfl
@[simp] theorem State.deliverSample_pktcnt (v : Word) : (s.deliverSample v).pktcnt = s.pktcnt := rfl
@[simp] theorem State.deliverSample_pend (v : Word) : (s.deliverSample v).pend = s.pend := rfl
@[simp] theorem State.deliverSample_fifo (v : Word) : (s.deliverSample v).fifo = s.fifo := rfl
@[simp] theorem State.deliverSample_ctrlBusy (v : Word) : (s.deliverSample v).ctrlBusy = s.ctrlBusy := rfl
@[simp] theorem State.deliverSample_ctrlOp (v : Word) : (s.deliverSample v).ctrlOp = s.ctrlOp := rfl
@[simp] theorem State.deliverSample_ctrlWord (v : Word) : (s.deliverSample v).ctrlWord = s.ctrlWord := rfl
@[simp] theorem State.deliverSample_tpRem (v : Word) : (s.deliverSample v).tpRem = s.tpRem := rfl
@[simp] theorem State.deliverSample_rdBusy (v : Word) : (s.deliverSample v).rdBusy = s.rdBusy := rfl
@[simp] theorem State.deliverSample_rdOp (v : Word) : (s.deliverSample v).rdOp = s.rdOp := rfl
@[simp] theorem State.deliverSample_rdWord (v : Word) : (s.deliverSample v).rdWord = s.rdWord := rfl
@[simp] theorem State.deliverSample_rdIdx (v : Word) : (s.deliverSample v).rdIdx = s.rdIdx := rfl
@[simp] theorem State.deliverSample_rdPos (v : Word) : (s.deliverSample v).rdPos = s.rdPos := rfl
@[simp] theorem State.deliverSample_sample (v : Word) : (s.deliverSample v).sample = v := rfl
@[simp] theorem State.deliverSample_rdValid (v : Word) : (s.deliverSample v).rdValid = true := rfl
@[simp] theorem State.deliverSample_pktBuf (v : Word) : (s.deliverSample v).pktBuf = s.pktBuf := rfl
@[simp] theorem State.deliverSample_pulseCount (v : Word) : (s.deliverSample v).pulseCount = s.pulseCount := rfl
@[simp] theorem State.deliverSample_fault (v : Word) : (s.deliverSample v).fault = s.fault := rfl
@[simp] theorem State.deliverSample_faultCmd (v : Word) : (s.deliverSample v).faultCmd = s.faultCmd := rfl
@[simp] theorem State.deliverSample_trig (v : Word) : (s.deliverSample v).trig = s.trig := rfl
@[simp] theorem State.deliverSample_history (v : Word) : (s.deliverSample v).history = .deliver .sample v :: s.history := rfl
@[simp] theorem State.deliverSample_params (v : Word) : (s.deliverSample v).params = s.params := rfl
@[simp] theorem State.deliverSample_env (v : Word) : (s.deliverSample v).env = s.env := rfl

/-! ## `State.deliverPacket` -/

@[simp] theorem State.deliverPacket_enabled (i : Nat) (v : Word) : (s.deliverPacket i v).enabled = s.enabled := rfl
@[simp] theorem State.deliverPacket_config (i : Nat) (v : Word) : (s.deliverPacket i v).config = s.config := rfl
@[simp] theorem State.deliverPacket_chptr (i : Nat) (v : Word) : (s.deliverPacket i v).chptr = s.chptr := rfl
@[simp] theorem State.deliverPacket_pktcnt (i : Nat) (v : Word) : (s.deliverPacket i v).pktcnt = s.pktcnt := rfl
@[simp] theorem State.deliverPacket_pend (i : Nat) (v : Word) : (s.deliverPacket i v).pend = s.pend := rfl
@[simp] theorem State.deliverPacket_fifo (i : Nat) (v : Word) : (s.deliverPacket i v).fifo = s.fifo := rfl
@[simp] theorem State.deliverPacket_ctrlBusy (i : Nat) (v : Word) : (s.deliverPacket i v).ctrlBusy = s.ctrlBusy := rfl
@[simp] theorem State.deliverPacket_ctrlOp (i : Nat) (v : Word) : (s.deliverPacket i v).ctrlOp = s.ctrlOp := rfl
@[simp] theorem State.deliverPacket_ctrlWord (i : Nat) (v : Word) : (s.deliverPacket i v).ctrlWord = s.ctrlWord := rfl
@[simp] theorem State.deliverPacket_tpRem (i : Nat) (v : Word) : (s.deliverPacket i v).tpRem = s.tpRem := rfl
@[simp] theorem State.deliverPacket_rdBusy (i : Nat) (v : Word) : (s.deliverPacket i v).rdBusy = s.rdBusy := rfl
@[simp] theorem State.deliverPacket_rdOp (i : Nat) (v : Word) : (s.deliverPacket i v).rdOp = s.rdOp := rfl
@[simp] theorem State.deliverPacket_rdWord (i : Nat) (v : Word) : (s.deliverPacket i v).rdWord = s.rdWord := rfl
@[simp] theorem State.deliverPacket_rdIdx (i : Nat) (v : Word) : (s.deliverPacket i v).rdIdx = s.rdIdx := rfl
@[simp] theorem State.deliverPacket_rdPos (i : Nat) (v : Word) : (s.deliverPacket i v).rdPos = s.rdPos := rfl
@[simp] theorem State.deliverPacket_sample (i : Nat) (v : Word) : (s.deliverPacket i v).sample = s.sample := rfl
@[simp] theorem State.deliverPacket_rdValid (i : Nat) (v : Word) : (s.deliverPacket i v).rdValid = s.rdValid := rfl
@[simp] theorem State.deliverPacket_pktBuf (i : Nat) (v : Word) : (s.deliverPacket i v).pktBuf = s.pktBuf.setIfInBounds i v := rfl
@[simp] theorem State.deliverPacket_pulseCount (i : Nat) (v : Word) : (s.deliverPacket i v).pulseCount = s.pulseCount := rfl
@[simp] theorem State.deliverPacket_fault (i : Nat) (v : Word) : (s.deliverPacket i v).fault = s.fault := rfl
@[simp] theorem State.deliverPacket_faultCmd (i : Nat) (v : Word) : (s.deliverPacket i v).faultCmd = s.faultCmd := rfl
@[simp] theorem State.deliverPacket_trig (i : Nat) (v : Word) : (s.deliverPacket i v).trig = s.trig := rfl
@[simp] theorem State.deliverPacket_history (i : Nat) (v : Word) : (s.deliverPacket i v).history = .deliver (.pktBuf i) v :: s.history := rfl
@[simp] theorem State.deliverPacket_params (i : Nat) (v : Word) : (s.deliverPacket i v).params = s.params := rfl
@[simp] theorem State.deliverPacket_env (i : Nat) (v : Word) : (s.deliverPacket i v).env = s.env := rfl

/-! ## `State.faultEnter` -/

@[simp] theorem State.faultEnter_enabled (c : Cause) (w : Word) : (s.faultEnter c w).enabled = s.enabled := rfl
@[simp] theorem State.faultEnter_config (c : Cause) (w : Word) : (s.faultEnter c w).config = s.config := rfl
@[simp] theorem State.faultEnter_chptr (c : Cause) (w : Word) : (s.faultEnter c w).chptr = s.chptr := rfl
@[simp] theorem State.faultEnter_pktcnt (c : Cause) (w : Word) : (s.faultEnter c w).pktcnt = s.pktcnt := rfl
@[simp] theorem State.faultEnter_pend (c : Cause) (w : Word) : (s.faultEnter c w).pend = s.pend := rfl
@[simp] theorem State.faultEnter_fifo (c : Cause) (w : Word) : (s.faultEnter c w).fifo = s.fifo := rfl
@[simp] theorem State.faultEnter_ctrlBusy (c : Cause) (w : Word) : (s.faultEnter c w).ctrlBusy = false := rfl
@[simp] theorem State.faultEnter_ctrlOp (c : Cause) (w : Word) : (s.faultEnter c w).ctrlOp = .none := rfl
@[simp] theorem State.faultEnter_ctrlWord (c : Cause) (w : Word) : (s.faultEnter c w).ctrlWord = s.ctrlWord := rfl
@[simp] theorem State.faultEnter_tpRem (c : Cause) (w : Word) : (s.faultEnter c w).tpRem = 0#3 := rfl
@[simp] theorem State.faultEnter_rdBusy (c : Cause) (w : Word) : (s.faultEnter c w).rdBusy = false := rfl
@[simp] theorem State.faultEnter_rdOp (c : Cause) (w : Word) : (s.faultEnter c w).rdOp = .none := rfl
@[simp] theorem State.faultEnter_rdWord (c : Cause) (w : Word) : (s.faultEnter c w).rdWord = s.rdWord := rfl
@[simp] theorem State.faultEnter_rdIdx (c : Cause) (w : Word) : (s.faultEnter c w).rdIdx = 0#3 := rfl
@[simp] theorem State.faultEnter_rdPos (c : Cause) (w : Word) : (s.faultEnter c w).rdPos = s.rdPos := rfl
@[simp] theorem State.faultEnter_sample (c : Cause) (w : Word) : (s.faultEnter c w).sample = s.sample := rfl
@[simp] theorem State.faultEnter_rdValid (c : Cause) (w : Word) : (s.faultEnter c w).rdValid = s.rdValid := rfl
@[simp] theorem State.faultEnter_pktBuf (c : Cause) (w : Word) : (s.faultEnter c w).pktBuf = s.pktBuf := rfl
@[simp] theorem State.faultEnter_pulseCount (c : Cause) (w : Word) : (s.faultEnter c w).pulseCount = s.pulseCount := rfl
@[simp] theorem State.faultEnter_fault (c : Cause) (w : Word) : (s.faultEnter c w).fault = faultWord c s.fault := rfl
@[simp] theorem State.faultEnter_faultCmd (c : Cause) (w : Word) : (s.faultEnter c w).faultCmd = w := rfl
@[simp] theorem State.faultEnter_trig (c : Cause) (w : Word) : (s.faultEnter c w).trig = s.trig := rfl
@[simp] theorem State.faultEnter_history (c : Cause) (w : Word) : (s.faultEnter c w).history = .fault c :: s.history := rfl
@[simp] theorem State.faultEnter_params (c : Cause) (w : Word) : (s.faultEnter c w).params = s.params := rfl
@[simp] theorem State.faultEnter_env (c : Cause) (w : Word) : (s.faultEnter c w).env = s.env := rfl

/-! ## `State.dropCommand` -/

@[simp] theorem State.dropCommand_enabled (p : Port) (w : Word) : (s.dropCommand p w).enabled = s.enabled := rfl
@[simp] theorem State.dropCommand_config (p : Port) (w : Word) : (s.dropCommand p w).config = s.config := rfl
@[simp] theorem State.dropCommand_chptr (p : Port) (w : Word) : (s.dropCommand p w).chptr = s.chptr := rfl
@[simp] theorem State.dropCommand_pktcnt (p : Port) (w : Word) : (s.dropCommand p w).pktcnt = s.pktcnt := rfl
@[simp] theorem State.dropCommand_pend (p : Port) (w : Word) : (s.dropCommand p w).pend = s.pend := rfl
@[simp] theorem State.dropCommand_fifo (p : Port) (w : Word) : (s.dropCommand p w).fifo = s.fifo := rfl
@[simp] theorem State.dropCommand_ctrlBusy (p : Port) (w : Word) : (s.dropCommand p w).ctrlBusy = s.ctrlBusy := rfl
@[simp] theorem State.dropCommand_ctrlOp (p : Port) (w : Word) : (s.dropCommand p w).ctrlOp = s.ctrlOp := rfl
@[simp] theorem State.dropCommand_ctrlWord (p : Port) (w : Word) : (s.dropCommand p w).ctrlWord = s.ctrlWord := rfl
@[simp] theorem State.dropCommand_tpRem (p : Port) (w : Word) : (s.dropCommand p w).tpRem = s.tpRem := rfl
@[simp] theorem State.dropCommand_rdBusy (p : Port) (w : Word) : (s.dropCommand p w).rdBusy = s.rdBusy := rfl
@[simp] theorem State.dropCommand_rdOp (p : Port) (w : Word) : (s.dropCommand p w).rdOp = s.rdOp := rfl
@[simp] theorem State.dropCommand_rdWord (p : Port) (w : Word) : (s.dropCommand p w).rdWord = s.rdWord := rfl
@[simp] theorem State.dropCommand_rdIdx (p : Port) (w : Word) : (s.dropCommand p w).rdIdx = s.rdIdx := rfl
@[simp] theorem State.dropCommand_rdPos (p : Port) (w : Word) : (s.dropCommand p w).rdPos = s.rdPos := rfl
@[simp] theorem State.dropCommand_sample (p : Port) (w : Word) : (s.dropCommand p w).sample = s.sample := rfl
@[simp] theorem State.dropCommand_rdValid (p : Port) (w : Word) : (s.dropCommand p w).rdValid = s.rdValid := rfl
@[simp] theorem State.dropCommand_pktBuf (p : Port) (w : Word) : (s.dropCommand p w).pktBuf = s.pktBuf := rfl
@[simp] theorem State.dropCommand_pulseCount (p : Port) (w : Word) : (s.dropCommand p w).pulseCount = s.pulseCount := rfl
@[simp] theorem State.dropCommand_fault (p : Port) (w : Word) : (s.dropCommand p w).fault = s.fault ||| dropBit := rfl
@[simp] theorem State.dropCommand_faultCmd (p : Port) (w : Word) : (s.dropCommand p w).faultCmd = s.faultCmd := rfl
@[simp] theorem State.dropCommand_trig (p : Port) (w : Word) : (s.dropCommand p w).trig = s.trig := rfl
@[simp] theorem State.dropCommand_history (p : Port) (w : Word) : (s.dropCommand p w).history = .drop p w :: s.history := rfl
@[simp] theorem State.dropCommand_params (p : Port) (w : Word) : (s.dropCommand p w).params = s.params := rfl
@[simp] theorem State.dropCommand_env (p : Port) (w : Word) : (s.dropCommand p w).env = s.env := rfl

/-! ## `State.driveTrig` -/

@[simp] theorem State.driveTrig_enabled (level : Bool) : (s.driveTrig level).enabled = s.enabled := rfl
@[simp] theorem State.driveTrig_config (level : Bool) : (s.driveTrig level).config = s.config := rfl
@[simp] theorem State.driveTrig_chptr (level : Bool) : (s.driveTrig level).chptr = s.chptr := rfl
@[simp] theorem State.driveTrig_pktcnt (level : Bool) : (s.driveTrig level).pktcnt = s.pktcnt := rfl
@[simp] theorem State.driveTrig_pend (level : Bool) : (s.driveTrig level).pend = s.pend := rfl
@[simp] theorem State.driveTrig_fifo (level : Bool) : (s.driveTrig level).fifo = s.fifo := rfl
@[simp] theorem State.driveTrig_ctrlBusy (level : Bool) : (s.driveTrig level).ctrlBusy = s.ctrlBusy := rfl
@[simp] theorem State.driveTrig_ctrlOp (level : Bool) : (s.driveTrig level).ctrlOp = s.ctrlOp := rfl
@[simp] theorem State.driveTrig_ctrlWord (level : Bool) : (s.driveTrig level).ctrlWord = s.ctrlWord := rfl
@[simp] theorem State.driveTrig_tpRem (level : Bool) : (s.driveTrig level).tpRem = s.tpRem := rfl
@[simp] theorem State.driveTrig_rdBusy (level : Bool) : (s.driveTrig level).rdBusy = s.rdBusy := rfl
@[simp] theorem State.driveTrig_rdOp (level : Bool) : (s.driveTrig level).rdOp = s.rdOp := rfl
@[simp] theorem State.driveTrig_rdWord (level : Bool) : (s.driveTrig level).rdWord = s.rdWord := rfl
@[simp] theorem State.driveTrig_rdIdx (level : Bool) : (s.driveTrig level).rdIdx = s.rdIdx := rfl
@[simp] theorem State.driveTrig_rdPos (level : Bool) : (s.driveTrig level).rdPos = s.rdPos := rfl
@[simp] theorem State.driveTrig_sample (level : Bool) : (s.driveTrig level).sample = s.sample := rfl
@[simp] theorem State.driveTrig_rdValid (level : Bool) : (s.driveTrig level).rdValid = s.rdValid := rfl
@[simp] theorem State.driveTrig_pktBuf (level : Bool) : (s.driveTrig level).pktBuf = s.pktBuf := rfl
@[simp] theorem State.driveTrig_pulseCount (level : Bool) : (s.driveTrig level).pulseCount = s.pulseCount := rfl
@[simp] theorem State.driveTrig_fault (level : Bool) : (s.driveTrig level).fault = s.fault := rfl
@[simp] theorem State.driveTrig_faultCmd (level : Bool) : (s.driveTrig level).faultCmd = s.faultCmd := rfl
@[simp] theorem State.driveTrig_trig (level : Bool) : (s.driveTrig level).trig = level := rfl
@[simp] theorem State.driveTrig_history (level : Bool) : (s.driveTrig level).history = s.history := rfl
@[simp] theorem State.driveTrig_params (level : Bool) : (s.driveTrig level).params = s.params := rfl
@[simp] theorem State.driveTrig_env (level : Bool) : (s.driveTrig level).env = s.env := rfl

/-! ## `State.pulse` -/

@[simp] theorem State.pulse_enabled (k : PulseKind) : (s.pulse k).enabled = s.enabled := rfl
@[simp] theorem State.pulse_config (k : PulseKind) : (s.pulse k).config = s.config := rfl
@[simp] theorem State.pulse_chptr (k : PulseKind) : (s.pulse k).chptr = s.chptr := rfl
@[simp] theorem State.pulse_pktcnt (k : PulseKind) : (s.pulse k).pktcnt = s.pktcnt := rfl
@[simp] theorem State.pulse_pend (k : PulseKind) : (s.pulse k).pend = s.pend := rfl
@[simp] theorem State.pulse_fifo (k : PulseKind) : (s.pulse k).fifo = s.fifo := rfl
@[simp] theorem State.pulse_ctrlBusy (k : PulseKind) : (s.pulse k).ctrlBusy = s.ctrlBusy := rfl
@[simp] theorem State.pulse_ctrlOp (k : PulseKind) : (s.pulse k).ctrlOp = s.ctrlOp := rfl
@[simp] theorem State.pulse_ctrlWord (k : PulseKind) : (s.pulse k).ctrlWord = s.ctrlWord := rfl
@[simp] theorem State.pulse_tpRem (k : PulseKind) : (s.pulse k).tpRem = s.tpRem := rfl
@[simp] theorem State.pulse_rdBusy (k : PulseKind) : (s.pulse k).rdBusy = s.rdBusy := rfl
@[simp] theorem State.pulse_rdOp (k : PulseKind) : (s.pulse k).rdOp = s.rdOp := rfl
@[simp] theorem State.pulse_rdWord (k : PulseKind) : (s.pulse k).rdWord = s.rdWord := rfl
@[simp] theorem State.pulse_rdIdx (k : PulseKind) : (s.pulse k).rdIdx = s.rdIdx := rfl
@[simp] theorem State.pulse_rdPos (k : PulseKind) : (s.pulse k).rdPos = s.rdPos := rfl
@[simp] theorem State.pulse_sample (k : PulseKind) : (s.pulse k).sample = s.sample := rfl
@[simp] theorem State.pulse_rdValid (k : PulseKind) : (s.pulse k).rdValid = s.rdValid := rfl
@[simp] theorem State.pulse_pktBuf (k : PulseKind) : (s.pulse k).pktBuf = s.pktBuf := rfl
@[simp] theorem State.pulse_pulseCount (k : PulseKind) : (s.pulse k).pulseCount = s.pulseCount + 1#32 := rfl
@[simp] theorem State.pulse_fault (k : PulseKind) : (s.pulse k).fault = s.fault := rfl
@[simp] theorem State.pulse_faultCmd (k : PulseKind) : (s.pulse k).faultCmd = s.faultCmd := rfl
@[simp] theorem State.pulse_trig (k : PulseKind) : (s.pulse k).trig = false := rfl
@[simp] theorem State.pulse_history (k : PulseKind) : (s.pulse k).history = .pulse k :: s.history := rfl
@[simp] theorem State.pulse_params (k : PulseKind) : (s.pulse k).params = s.params := rfl
@[simp] theorem State.pulse_env (k : PulseKind) : (s.pulse k).env = s.env := rfl

/-! ## `State.tileReset` -/

@[simp] theorem State.tileReset_enabled : s.tileReset.enabled = State.reset.enabled := rfl
@[simp] theorem State.tileReset_config : s.tileReset.config = State.reset.config := rfl
@[simp] theorem State.tileReset_chptr : s.tileReset.chptr = State.reset.chptr := rfl
@[simp] theorem State.tileReset_pktcnt : s.tileReset.pktcnt = State.reset.pktcnt := rfl
@[simp] theorem State.tileReset_pend : s.tileReset.pend = State.reset.pend := rfl
@[simp] theorem State.tileReset_fifo : s.tileReset.fifo = State.reset.fifo := rfl
@[simp] theorem State.tileReset_ctrlBusy : s.tileReset.ctrlBusy = State.reset.ctrlBusy := rfl
@[simp] theorem State.tileReset_ctrlOp : s.tileReset.ctrlOp = State.reset.ctrlOp := rfl
@[simp] theorem State.tileReset_ctrlWord : s.tileReset.ctrlWord = State.reset.ctrlWord := rfl
@[simp] theorem State.tileReset_tpRem : s.tileReset.tpRem = State.reset.tpRem := rfl
@[simp] theorem State.tileReset_rdBusy : s.tileReset.rdBusy = State.reset.rdBusy := rfl
@[simp] theorem State.tileReset_rdOp : s.tileReset.rdOp = State.reset.rdOp := rfl
@[simp] theorem State.tileReset_rdWord : s.tileReset.rdWord = State.reset.rdWord := rfl
@[simp] theorem State.tileReset_rdIdx : s.tileReset.rdIdx = State.reset.rdIdx := rfl
@[simp] theorem State.tileReset_rdPos : s.tileReset.rdPos = State.reset.rdPos := rfl
@[simp] theorem State.tileReset_sample : s.tileReset.sample = State.reset.sample := rfl
@[simp] theorem State.tileReset_rdValid : s.tileReset.rdValid = State.reset.rdValid := rfl
@[simp] theorem State.tileReset_pktBuf : s.tileReset.pktBuf = State.reset.pktBuf := rfl
@[simp] theorem State.tileReset_pulseCount : s.tileReset.pulseCount = State.reset.pulseCount := rfl
@[simp] theorem State.tileReset_fault : s.tileReset.fault = State.reset.fault := rfl
@[simp] theorem State.tileReset_faultCmd : s.tileReset.faultCmd = State.reset.faultCmd := rfl
@[simp] theorem State.tileReset_trig : s.tileReset.trig = State.reset.trig := rfl
@[simp] theorem State.tileReset_history : s.tileReset.history = State.reset.history := rfl
@[simp] theorem State.tileReset_params : s.tileReset.params = s.params := rfl
@[simp] theorem State.tileReset_env : s.tileReset.env = { s.env with ctrlHost := HostState.idle, rdHost := HostState.idle } := rfl

/-! ## `State.programConfig` -/

@[simp] theorem State.programConfig_enabled (w : Word) (m : ChMask) : (s.programConfig w m).enabled = true := rfl
@[simp] theorem State.programConfig_config (w : Word) (m : ChMask) : (s.programConfig w m).config = latchedConfig w := rfl
@[simp] theorem State.programConfig_chptr (w : Word) (m : ChMask) : (s.programConfig w m).chptr = lowestSet m := rfl
@[simp] theorem State.programConfig_pktcnt (w : Word) (m : ChMask) : (s.programConfig w m).pktcnt = 0#3 := rfl
@[simp] theorem State.programConfig_pend (w : Word) (m : ChMask) : (s.programConfig w m).pend = 0#3 := rfl
@[simp] theorem State.programConfig_fifo (w : Word) (m : ChMask) : (s.programConfig w m).fifo = [] := rfl
@[simp] theorem State.programConfig_ctrlBusy (w : Word) (m : ChMask) : (s.programConfig w m).ctrlBusy = s.ctrlBusy := rfl
@[simp] theorem State.programConfig_ctrlOp (w : Word) (m : ChMask) : (s.programConfig w m).ctrlOp = s.ctrlOp := rfl
@[simp] theorem State.programConfig_ctrlWord (w : Word) (m : ChMask) : (s.programConfig w m).ctrlWord = s.ctrlWord := rfl
@[simp] theorem State.programConfig_tpRem (w : Word) (m : ChMask) : (s.programConfig w m).tpRem = s.tpRem := rfl
@[simp] theorem State.programConfig_rdBusy (w : Word) (m : ChMask) : (s.programConfig w m).rdBusy = s.rdBusy := rfl
@[simp] theorem State.programConfig_rdOp (w : Word) (m : ChMask) : (s.programConfig w m).rdOp = s.rdOp := rfl
@[simp] theorem State.programConfig_rdWord (w : Word) (m : ChMask) : (s.programConfig w m).rdWord = s.rdWord := rfl
@[simp] theorem State.programConfig_rdIdx (w : Word) (m : ChMask) : (s.programConfig w m).rdIdx = s.rdIdx := rfl
@[simp] theorem State.programConfig_rdPos (w : Word) (m : ChMask) : (s.programConfig w m).rdPos = 0#3 := rfl
@[simp] theorem State.programConfig_sample (w : Word) (m : ChMask) : (s.programConfig w m).sample = s.sample := rfl
@[simp] theorem State.programConfig_rdValid (w : Word) (m : ChMask) : (s.programConfig w m).rdValid = s.rdValid := rfl
@[simp] theorem State.programConfig_pktBuf (w : Word) (m : ChMask) : (s.programConfig w m).pktBuf = s.pktBuf := rfl
@[simp] theorem State.programConfig_pulseCount (w : Word) (m : ChMask) : (s.programConfig w m).pulseCount = s.pulseCount := rfl
@[simp] theorem State.programConfig_fault (w : Word) (m : ChMask) : (s.programConfig w m).fault = s.fault := rfl
@[simp] theorem State.programConfig_faultCmd (w : Word) (m : ChMask) : (s.programConfig w m).faultCmd = s.faultCmd := rfl
@[simp] theorem State.programConfig_trig (w : Word) (m : ChMask) : (s.programConfig w m).trig = s.trig := rfl
@[simp] theorem State.programConfig_history (w : Word) (m : ChMask) : (s.programConfig w m).history = s.history := rfl
@[simp] theorem State.programConfig_params (w : Word) (m : ChMask) : (s.programConfig w m).params = s.params := rfl
@[simp] theorem State.programConfig_env (w : Word) (m : ChMask) : (s.programConfig w m).env = s.env := rfl

/-! ## `State.powerDown` -/

@[simp] theorem State.powerDown_enabled : s.powerDown.enabled = false := rfl
@[simp] theorem State.powerDown_config : s.powerDown.config = 0#32 := rfl
@[simp] theorem State.powerDown_chptr : s.powerDown.chptr = 0#3 := rfl
@[simp] theorem State.powerDown_pktcnt : s.powerDown.pktcnt = 0#3 := rfl
@[simp] theorem State.powerDown_pend : s.powerDown.pend = 0#3 := rfl
@[simp] theorem State.powerDown_fifo : s.powerDown.fifo = [] := rfl
@[simp] theorem State.powerDown_ctrlBusy : s.powerDown.ctrlBusy = s.ctrlBusy := rfl
@[simp] theorem State.powerDown_ctrlOp : s.powerDown.ctrlOp = s.ctrlOp := rfl
@[simp] theorem State.powerDown_ctrlWord : s.powerDown.ctrlWord = 0#32 := rfl
@[simp] theorem State.powerDown_tpRem : s.powerDown.tpRem = s.tpRem := rfl
@[simp] theorem State.powerDown_rdBusy : s.powerDown.rdBusy = false := rfl
@[simp] theorem State.powerDown_rdOp : s.powerDown.rdOp = .none := rfl
@[simp] theorem State.powerDown_rdWord : s.powerDown.rdWord = 0#32 := rfl
@[simp] theorem State.powerDown_rdIdx : s.powerDown.rdIdx = 0#3 := rfl
@[simp] theorem State.powerDown_rdPos : s.powerDown.rdPos = 0#3 := rfl
@[simp] theorem State.powerDown_sample : s.powerDown.sample = s.sample := rfl
@[simp] theorem State.powerDown_rdValid : s.powerDown.rdValid = s.rdValid := rfl
@[simp] theorem State.powerDown_pktBuf : s.powerDown.pktBuf = s.pktBuf := rfl
@[simp] theorem State.powerDown_pulseCount : s.powerDown.pulseCount = s.pulseCount := rfl
@[simp] theorem State.powerDown_fault : s.powerDown.fault = s.fault := rfl
@[simp] theorem State.powerDown_faultCmd : s.powerDown.faultCmd = s.faultCmd := rfl
@[simp] theorem State.powerDown_trig : s.powerDown.trig = s.trig := rfl
@[simp] theorem State.powerDown_history : s.powerDown.history = s.history := rfl
@[simp] theorem State.powerDown_params : s.powerDown.params = s.params := rfl
@[simp] theorem State.powerDown_env : s.powerDown.env = s.env := rfl

/-! ## `State.takeWord` -/

@[simp] theorem State.takeWord_enabled (w : Word) (rest : List WireItem) : (s.takeWord w rest).enabled = s.enabled := rfl
@[simp] theorem State.takeWord_config (w : Word) (rest : List WireItem) : (s.takeWord w rest).config = s.config := rfl
@[simp] theorem State.takeWord_chptr (w : Word) (rest : List WireItem) : (s.takeWord w rest).chptr = s.chptr := rfl
@[simp] theorem State.takeWord_pktcnt (w : Word) (rest : List WireItem) : (s.takeWord w rest).pktcnt = s.pktcnt := rfl
@[simp] theorem State.takeWord_pend (w : Word) (rest : List WireItem) : (s.takeWord w rest).pend = s.pend := rfl
@[simp] theorem State.takeWord_fifo (w : Word) (rest : List WireItem) : (s.takeWord w rest).fifo = rest := rfl
@[simp] theorem State.takeWord_ctrlBusy (w : Word) (rest : List WireItem) : (s.takeWord w rest).ctrlBusy = s.ctrlBusy := rfl
@[simp] theorem State.takeWord_ctrlOp (w : Word) (rest : List WireItem) : (s.takeWord w rest).ctrlOp = s.ctrlOp := rfl
@[simp] theorem State.takeWord_ctrlWord (w : Word) (rest : List WireItem) : (s.takeWord w rest).ctrlWord = s.ctrlWord := rfl
@[simp] theorem State.takeWord_tpRem (w : Word) (rest : List WireItem) : (s.takeWord w rest).tpRem = s.tpRem := rfl
@[simp] theorem State.takeWord_rdBusy (w : Word) (rest : List WireItem) : (s.takeWord w rest).rdBusy = s.rdBusy := rfl
@[simp] theorem State.takeWord_rdOp (w : Word) (rest : List WireItem) : (s.takeWord w rest).rdOp = s.rdOp := rfl
@[simp] theorem State.takeWord_rdWord (w : Word) (rest : List WireItem) : (s.takeWord w rest).rdWord = s.rdWord := rfl
@[simp] theorem State.takeWord_rdIdx (w : Word) (rest : List WireItem) : (s.takeWord w rest).rdIdx = s.rdIdx := rfl
@[simp] theorem State.takeWord_rdPos (w : Word) (rest : List WireItem) : (s.takeWord w rest).rdPos = s.rdPos + 1#3 := rfl
@[simp] theorem State.takeWord_sample (w : Word) (rest : List WireItem) : (s.takeWord w rest).sample = s.sampleValue w := rfl
@[simp] theorem State.takeWord_rdValid (w : Word) (rest : List WireItem) : (s.takeWord w rest).rdValid = true := rfl
@[simp] theorem State.takeWord_pktBuf (w : Word) (rest : List WireItem) : (s.takeWord w rest).pktBuf = s.pktBuf := rfl
@[simp] theorem State.takeWord_pulseCount (w : Word) (rest : List WireItem) : (s.takeWord w rest).pulseCount = s.pulseCount := rfl
@[simp] theorem State.takeWord_fault (w : Word) (rest : List WireItem) : (s.takeWord w rest).fault = s.fault := rfl
@[simp] theorem State.takeWord_faultCmd (w : Word) (rest : List WireItem) : (s.takeWord w rest).faultCmd = s.faultCmd := rfl
@[simp] theorem State.takeWord_trig (w : Word) (rest : List WireItem) : (s.takeWord w rest).trig = s.trig := rfl
@[simp] theorem State.takeWord_history (w : Word) (rest : List WireItem) : (s.takeWord w rest).history = .deliver .sample (s.sampleValue w) :: .pop (.data w) :: s.history := rfl
@[simp] theorem State.takeWord_params (w : Word) (rest : List WireItem) : (s.takeWord w rest).params = s.params := rfl
@[simp] theorem State.takeWord_env (w : Word) (rest : List WireItem) : (s.takeWord w rest).env = s.env := rfl

/-! ## `State.takePacketWord` -/

@[simp] theorem State.takePacketWord_enabled (w : Word) (rest : List WireItem) : (s.takePacketWord w rest).enabled = s.enabled := rfl
@[simp] theorem State.takePacketWord_config (w : Word) (rest : List WireItem) : (s.takePacketWord w rest).config = s.config := rfl
@[simp] theorem State.takePacketWord_chptr (w : Word) (rest : List WireItem) : (s.takePacketWord w rest).chptr = s.chptr := rfl
@[simp] theorem State.takePacketWord_pktcnt (w : Word) (rest : List WireItem) : (s.takePacketWord w rest).pktcnt = s.pktcnt := rfl
@[simp] theorem State.takePacketWord_pend (w : Word) (rest : List WireItem) : (s.takePacketWord w rest).pend = s.pend := rfl
@[simp] theorem State.takePacketWord_fifo (w : Word) (rest : List WireItem) : (s.takePacketWord w rest).fifo = rest := rfl
@[simp] theorem State.takePacketWord_ctrlBusy (w : Word) (rest : List WireItem) : (s.takePacketWord w rest).ctrlBusy = s.ctrlBusy := rfl
@[simp] theorem State.takePacketWord_ctrlOp (w : Word) (rest : List WireItem) : (s.takePacketWord w rest).ctrlOp = s.ctrlOp := rfl
@[simp] theorem State.takePacketWord_ctrlWord (w : Word) (rest : List WireItem) : (s.takePacketWord w rest).ctrlWord = s.ctrlWord := rfl
@[simp] theorem State.takePacketWord_tpRem (w : Word) (rest : List WireItem) : (s.takePacketWord w rest).tpRem = s.tpRem := rfl
@[simp] theorem State.takePacketWord_rdBusy (w : Word) (rest : List WireItem) : (s.takePacketWord w rest).rdBusy = s.rdBusy := rfl
@[simp] theorem State.takePacketWord_rdOp (w : Word) (rest : List WireItem) : (s.takePacketWord w rest).rdOp = s.rdOp := rfl
@[simp] theorem State.takePacketWord_rdWord (w : Word) (rest : List WireItem) : (s.takePacketWord w rest).rdWord = s.rdWord := rfl
@[simp] theorem State.takePacketWord_rdIdx (w : Word) (rest : List WireItem) : (s.takePacketWord w rest).rdIdx = s.rdIdx + 1#3 := rfl
@[simp] theorem State.takePacketWord_rdPos (w : Word) (rest : List WireItem) : (s.takePacketWord w rest).rdPos = s.rdPos + 1#3 := rfl
@[simp] theorem State.takePacketWord_sample (w : Word) (rest : List WireItem) : (s.takePacketWord w rest).sample = s.sample := rfl
@[simp] theorem State.takePacketWord_rdValid (w : Word) (rest : List WireItem) : (s.takePacketWord w rest).rdValid = s.rdValid := rfl
@[simp] theorem State.takePacketWord_pktBuf (w : Word) (rest : List WireItem) : (s.takePacketWord w rest).pktBuf = s.pktBuf.setIfInBounds s.rdIdx.toNat (s.sampleValue w) := rfl
@[simp] theorem State.takePacketWord_pulseCount (w : Word) (rest : List WireItem) : (s.takePacketWord w rest).pulseCount = s.pulseCount := rfl
@[simp] theorem State.takePacketWord_fault (w : Word) (rest : List WireItem) : (s.takePacketWord w rest).fault = s.fault := rfl
@[simp] theorem State.takePacketWord_faultCmd (w : Word) (rest : List WireItem) : (s.takePacketWord w rest).faultCmd = s.faultCmd := rfl
@[simp] theorem State.takePacketWord_trig (w : Word) (rest : List WireItem) : (s.takePacketWord w rest).trig = s.trig := rfl
@[simp] theorem State.takePacketWord_history (w : Word) (rest : List WireItem) : (s.takePacketWord w rest).history = .deliver (.pktBuf s.rdIdx.toNat) (s.sampleValue w) :: .pop (.data w) :: s.history := rfl
@[simp] theorem State.takePacketWord_params (w : Word) (rest : List WireItem) : (s.takePacketWord w rest).params = s.params := rfl
@[simp] theorem State.takePacketWord_env (w : Word) (rest : List WireItem) : (s.takePacketWord w rest).env = s.env := rfl

/-! ## `State.takeTrailer` -/

@[simp] theorem State.takeTrailer_enabled (c : Byte) (rest : List WireItem) : (s.takeTrailer c rest).enabled = s.enabled := rfl
@[simp] theorem State.takeTrailer_config (c : Byte) (rest : List WireItem) : (s.takeTrailer c rest).config = s.config := rfl
@[simp] theorem State.takeTrailer_chptr (c : Byte) (rest : List WireItem) : (s.takeTrailer c rest).chptr = s.chptr := rfl
@[simp] theorem State.takeTrailer_pktcnt (c : Byte) (rest : List WireItem) : (s.takeTrailer c rest).pktcnt = s.pktcnt := rfl
@[simp] theorem State.takeTrailer_pend (c : Byte) (rest : List WireItem) : (s.takeTrailer c rest).pend = s.pend := rfl
@[simp] theorem State.takeTrailer_fifo (c : Byte) (rest : List WireItem) : (s.takeTrailer c rest).fifo = rest := rfl
@[simp] theorem State.takeTrailer_ctrlBusy (c : Byte) (rest : List WireItem) : (s.takeTrailer c rest).ctrlBusy = s.ctrlBusy := rfl
@[simp] theorem State.takeTrailer_ctrlOp (c : Byte) (rest : List WireItem) : (s.takeTrailer c rest).ctrlOp = s.ctrlOp := rfl
@[simp] theorem State.takeTrailer_ctrlWord (c : Byte) (rest : List WireItem) : (s.takeTrailer c rest).ctrlWord = s.ctrlWord := rfl
@[simp] theorem State.takeTrailer_tpRem (c : Byte) (rest : List WireItem) : (s.takeTrailer c rest).tpRem = s.tpRem := rfl
@[simp] theorem State.takeTrailer_rdBusy (c : Byte) (rest : List WireItem) : (s.takeTrailer c rest).rdBusy = false := rfl
@[simp] theorem State.takeTrailer_rdOp (c : Byte) (rest : List WireItem) : (s.takeTrailer c rest).rdOp = .none := rfl
@[simp] theorem State.takeTrailer_rdWord (c : Byte) (rest : List WireItem) : (s.takeTrailer c rest).rdWord = s.rdWord := rfl
@[simp] theorem State.takeTrailer_rdIdx (c : Byte) (rest : List WireItem) : (s.takeTrailer c rest).rdIdx = 0#3 := rfl
@[simp] theorem State.takeTrailer_rdPos (c : Byte) (rest : List WireItem) : (s.takeTrailer c rest).rdPos = 0#3 := rfl
@[simp] theorem State.takeTrailer_sample (c : Byte) (rest : List WireItem) : (s.takeTrailer c rest).sample = s.sample := rfl
@[simp] theorem State.takeTrailer_rdValid (c : Byte) (rest : List WireItem) : (s.takeTrailer c rest).rdValid = s.rdValid := rfl
@[simp] theorem State.takeTrailer_pktBuf (c : Byte) (rest : List WireItem) : (s.takeTrailer c rest).pktBuf = s.pktBuf := rfl
@[simp] theorem State.takeTrailer_pulseCount (c : Byte) (rest : List WireItem) : (s.takeTrailer c rest).pulseCount = s.pulseCount := rfl
@[simp] theorem State.takeTrailer_fault (c : Byte) (rest : List WireItem) : (s.takeTrailer c rest).fault = s.fault := rfl
@[simp] theorem State.takeTrailer_faultCmd (c : Byte) (rest : List WireItem) : (s.takeTrailer c rest).faultCmd = s.faultCmd := rfl
@[simp] theorem State.takeTrailer_trig (c : Byte) (rest : List WireItem) : (s.takeTrailer c rest).trig = s.trig := rfl
@[simp] theorem State.takeTrailer_history (c : Byte) (rest : List WireItem) : (s.takeTrailer c rest).history = .pop (.ctrl c) :: s.history := rfl
@[simp] theorem State.takeTrailer_params (c : Byte) (rest : List WireItem) : (s.takeTrailer c rest).params = s.params := rfl
@[simp] theorem State.takeTrailer_env (c : Byte) (rest : List WireItem) : (s.takeTrailer c rest).env = s.env := rfl

/-! ## The environment's updates change nothing of the block -/

@[simp] theorem State.setHost_enabled (h : HostAgent) (x : HostState) : (s.setHost h x).enabled = s.enabled := by cases h <;> rfl
@[simp] theorem State.setHost_config (h : HostAgent) (x : HostState) : (s.setHost h x).config = s.config := by cases h <;> rfl
@[simp] theorem State.setHost_chptr (h : HostAgent) (x : HostState) : (s.setHost h x).chptr = s.chptr := by cases h <;> rfl
@[simp] theorem State.setHost_pktcnt (h : HostAgent) (x : HostState) : (s.setHost h x).pktcnt = s.pktcnt := by cases h <;> rfl
@[simp] theorem State.setHost_pend (h : HostAgent) (x : HostState) : (s.setHost h x).pend = s.pend := by cases h <;> rfl
@[simp] theorem State.setHost_fifo (h : HostAgent) (x : HostState) : (s.setHost h x).fifo = s.fifo := by cases h <;> rfl
@[simp] theorem State.setHost_ctrlBusy (h : HostAgent) (x : HostState) : (s.setHost h x).ctrlBusy = s.ctrlBusy := by cases h <;> rfl
@[simp] theorem State.setHost_ctrlOp (h : HostAgent) (x : HostState) : (s.setHost h x).ctrlOp = s.ctrlOp := by cases h <;> rfl
@[simp] theorem State.setHost_ctrlWord (h : HostAgent) (x : HostState) : (s.setHost h x).ctrlWord = s.ctrlWord := by cases h <;> rfl
@[simp] theorem State.setHost_tpRem (h : HostAgent) (x : HostState) : (s.setHost h x).tpRem = s.tpRem := by cases h <;> rfl
@[simp] theorem State.setHost_rdBusy (h : HostAgent) (x : HostState) : (s.setHost h x).rdBusy = s.rdBusy := by cases h <;> rfl
@[simp] theorem State.setHost_rdOp (h : HostAgent) (x : HostState) : (s.setHost h x).rdOp = s.rdOp := by cases h <;> rfl
@[simp] theorem State.setHost_rdWord (h : HostAgent) (x : HostState) : (s.setHost h x).rdWord = s.rdWord := by cases h <;> rfl
@[simp] theorem State.setHost_rdIdx (h : HostAgent) (x : HostState) : (s.setHost h x).rdIdx = s.rdIdx := by cases h <;> rfl
@[simp] theorem State.setHost_rdPos (h : HostAgent) (x : HostState) : (s.setHost h x).rdPos = s.rdPos := by cases h <;> rfl
@[simp] theorem State.setHost_sample (h : HostAgent) (x : HostState) : (s.setHost h x).sample = s.sample := by cases h <;> rfl
@[simp] theorem State.setHost_rdValid (h : HostAgent) (x : HostState) : (s.setHost h x).rdValid = s.rdValid := by cases h <;> rfl
@[simp] theorem State.setHost_pktBuf (h : HostAgent) (x : HostState) : (s.setHost h x).pktBuf = s.pktBuf := by cases h <;> rfl
@[simp] theorem State.setHost_pulseCount (h : HostAgent) (x : HostState) : (s.setHost h x).pulseCount = s.pulseCount := by cases h <;> rfl
@[simp] theorem State.setHost_fault (h : HostAgent) (x : HostState) : (s.setHost h x).fault = s.fault := by cases h <;> rfl
@[simp] theorem State.setHost_faultCmd (h : HostAgent) (x : HostState) : (s.setHost h x).faultCmd = s.faultCmd := by cases h <;> rfl
@[simp] theorem State.setHost_trig (h : HostAgent) (x : HostState) : (s.setHost h x).trig = s.trig := by cases h <;> rfl
@[simp] theorem State.setHost_history (h : HostAgent) (x : HostState) : (s.setHost h x).history = s.history := by cases h <;> rfl
@[simp] theorem State.setHost_params (h : HostAgent) (x : HostState) : (s.setHost h x).params = s.params := by cases h <;> rfl

@[simp] theorem State.consumeTurn_enabled : s.consumeTurn.enabled = s.enabled := by unfold State.consumeTurn; split <;> rfl
@[simp] theorem State.consumeTurn_config : s.consumeTurn.config = s.config := by unfold State.consumeTurn; split <;> rfl
@[simp] theorem State.consumeTurn_chptr : s.consumeTurn.chptr = s.chptr := by unfold State.consumeTurn; split <;> rfl
@[simp] theorem State.consumeTurn_pktcnt : s.consumeTurn.pktcnt = s.pktcnt := by unfold State.consumeTurn; split <;> rfl
@[simp] theorem State.consumeTurn_pend : s.consumeTurn.pend = s.pend := by unfold State.consumeTurn; split <;> rfl
@[simp] theorem State.consumeTurn_fifo : s.consumeTurn.fifo = s.fifo := by unfold State.consumeTurn; split <;> rfl
@[simp] theorem State.consumeTurn_ctrlBusy : s.consumeTurn.ctrlBusy = s.ctrlBusy := by unfold State.consumeTurn; split <;> rfl
@[simp] theorem State.consumeTurn_ctrlOp : s.consumeTurn.ctrlOp = s.ctrlOp := by unfold State.consumeTurn; split <;> rfl
@[simp] theorem State.consumeTurn_ctrlWord : s.consumeTurn.ctrlWord = s.ctrlWord := by unfold State.consumeTurn; split <;> rfl
@[simp] theorem State.consumeTurn_tpRem : s.consumeTurn.tpRem = s.tpRem := by unfold State.consumeTurn; split <;> rfl
@[simp] theorem State.consumeTurn_rdBusy : s.consumeTurn.rdBusy = s.rdBusy := by unfold State.consumeTurn; split <;> rfl
@[simp] theorem State.consumeTurn_rdOp : s.consumeTurn.rdOp = s.rdOp := by unfold State.consumeTurn; split <;> rfl
@[simp] theorem State.consumeTurn_rdWord : s.consumeTurn.rdWord = s.rdWord := by unfold State.consumeTurn; split <;> rfl
@[simp] theorem State.consumeTurn_rdIdx : s.consumeTurn.rdIdx = s.rdIdx := by unfold State.consumeTurn; split <;> rfl
@[simp] theorem State.consumeTurn_rdPos : s.consumeTurn.rdPos = s.rdPos := by unfold State.consumeTurn; split <;> rfl
@[simp] theorem State.consumeTurn_sample : s.consumeTurn.sample = s.sample := by unfold State.consumeTurn; split <;> rfl
@[simp] theorem State.consumeTurn_rdValid : s.consumeTurn.rdValid = s.rdValid := by unfold State.consumeTurn; split <;> rfl
@[simp] theorem State.consumeTurn_pktBuf : s.consumeTurn.pktBuf = s.pktBuf := by unfold State.consumeTurn; split <;> rfl
@[simp] theorem State.consumeTurn_pulseCount : s.consumeTurn.pulseCount = s.pulseCount := by unfold State.consumeTurn; split <;> rfl
@[simp] theorem State.consumeTurn_fault : s.consumeTurn.fault = s.fault := by unfold State.consumeTurn; split <;> rfl
@[simp] theorem State.consumeTurn_faultCmd : s.consumeTurn.faultCmd = s.faultCmd := by unfold State.consumeTurn; split <;> rfl
@[simp] theorem State.consumeTurn_trig : s.consumeTurn.trig = s.trig := by unfold State.consumeTurn; split <;> rfl
@[simp] theorem State.consumeTurn_history : s.consumeTurn.history = s.history := by unfold State.consumeTurn; split <;> rfl
@[simp] theorem State.consumeTurn_params : s.consumeTurn.params = s.params := by unfold State.consumeTurn; split <;> rfl

@[simp] theorem State.consumeDraw_enabled : s.consumeDraw.enabled = s.enabled := by unfold State.consumeDraw; split <;> rfl
@[simp] theorem State.consumeDraw_config : s.consumeDraw.config = s.config := by unfold State.consumeDraw; split <;> rfl
@[simp] theorem State.consumeDraw_chptr : s.consumeDraw.chptr = s.chptr := by unfold State.consumeDraw; split <;> rfl
@[simp] theorem State.consumeDraw_pktcnt : s.consumeDraw.pktcnt = s.pktcnt := by unfold State.consumeDraw; split <;> rfl
@[simp] theorem State.consumeDraw_pend : s.consumeDraw.pend = s.pend := by unfold State.consumeDraw; split <;> rfl
@[simp] theorem State.consumeDraw_fifo : s.consumeDraw.fifo = s.fifo := by unfold State.consumeDraw; split <;> rfl
@[simp] theorem State.consumeDraw_ctrlBusy : s.consumeDraw.ctrlBusy = s.ctrlBusy := by unfold State.consumeDraw; split <;> rfl
@[simp] theorem State.consumeDraw_ctrlOp : s.consumeDraw.ctrlOp = s.ctrlOp := by unfold State.consumeDraw; split <;> rfl
@[simp] theorem State.consumeDraw_ctrlWord : s.consumeDraw.ctrlWord = s.ctrlWord := by unfold State.consumeDraw; split <;> rfl
@[simp] theorem State.consumeDraw_tpRem : s.consumeDraw.tpRem = s.tpRem := by unfold State.consumeDraw; split <;> rfl
@[simp] theorem State.consumeDraw_rdBusy : s.consumeDraw.rdBusy = s.rdBusy := by unfold State.consumeDraw; split <;> rfl
@[simp] theorem State.consumeDraw_rdOp : s.consumeDraw.rdOp = s.rdOp := by unfold State.consumeDraw; split <;> rfl
@[simp] theorem State.consumeDraw_rdWord : s.consumeDraw.rdWord = s.rdWord := by unfold State.consumeDraw; split <;> rfl
@[simp] theorem State.consumeDraw_rdIdx : s.consumeDraw.rdIdx = s.rdIdx := by unfold State.consumeDraw; split <;> rfl
@[simp] theorem State.consumeDraw_rdPos : s.consumeDraw.rdPos = s.rdPos := by unfold State.consumeDraw; split <;> rfl
@[simp] theorem State.consumeDraw_sample : s.consumeDraw.sample = s.sample := by unfold State.consumeDraw; split <;> rfl
@[simp] theorem State.consumeDraw_rdValid : s.consumeDraw.rdValid = s.rdValid := by unfold State.consumeDraw; split <;> rfl
@[simp] theorem State.consumeDraw_pktBuf : s.consumeDraw.pktBuf = s.pktBuf := by unfold State.consumeDraw; split <;> rfl
@[simp] theorem State.consumeDraw_pulseCount : s.consumeDraw.pulseCount = s.pulseCount := by unfold State.consumeDraw; split <;> rfl
@[simp] theorem State.consumeDraw_fault : s.consumeDraw.fault = s.fault := by unfold State.consumeDraw; split <;> rfl
@[simp] theorem State.consumeDraw_faultCmd : s.consumeDraw.faultCmd = s.faultCmd := by unfold State.consumeDraw; split <;> rfl
@[simp] theorem State.consumeDraw_trig : s.consumeDraw.trig = s.trig := by unfold State.consumeDraw; split <;> rfl
@[simp] theorem State.consumeDraw_history : s.consumeDraw.history = s.history := by unfold State.consumeDraw; split <;> rfl
@[simp] theorem State.consumeDraw_params : s.consumeDraw.params = s.params := by unfold State.consumeDraw; split <;> rfl

@[simp] theorem State.setHost_host_self (h : HostAgent) (x : HostState) : (s.setHost h x).host h = x := by cases h <;> rfl

theorem State.setHost_host_other (h g : HostAgent) (x : HostState) (hne : g ≠ h) : (s.setHost h x).host g = s.host g := by
  cases h <;> cases g <;> first | rfl | exact absurd rfl hne

@[simp] theorem State.setHost_turns (h : HostAgent) (x : HostState) : (s.setHost h x).env.turns = s.env.turns := by
  cases h <;> rfl

@[simp] theorem State.consumeTurn_host (h : HostAgent) : s.consumeTurn.host h = s.host h := by
  cases h <;> simp only [State.host, State.consumeTurn] <;> split <;> rfl

@[simp] theorem State.record_host (e : Event) (h : HostAgent) : (s.record e).host h = s.host h := by cases h <;> rfl

end Sys2Proof.Machine
end

