-- ==== Sys2Proof/Laws/Ops.lean ====
section
/-! SUPPORT. One lemma per shared operation that says what it can do: channel masks, the configuration ENABLE latches, the FIFO
counts, fault entry, the pulses and the reader's loop. -/

namespace Sys2Proof.Machine

/-! ## Channel masks -/

theorem mem_enabledChannels {m : ChMask} {i : Nat} : i ∈ enabledChannels m ↔ i < 8 ∧ m.getLsbD i = true := by
  simp [enabledChannels, Config.numCh]

/-- A nonzero popcount gives a lowest set bit that is set. -/
theorem lowestSet_is_set {m : ChMask} (h : 1 ≤ popcount m) : m.getLsbD (lowestSet m).toNat = true := by
  unfold lowestSet
  split
  · rename_i hn; simp [popcount, hn] at h
  · rename_i i rest hn
    have hi := mem_enabledChannels.mp (hn ▸ List.mem_cons_self : i ∈ enabledChannels m)
    rw [BitVec.toNat_ofNat, Nat.mod_eq_of_lt hi.1]
    exact hi.2

/-- `next_enabled` of a mask with a set bit is a set bit. -/
theorem nextEnabled_is_set {m : ChMask} (i : BitVec 3) (h : 1 ≤ popcount m) :
    m.getLsbD (nextEnabled m i).toNat = true := by
  unfold nextEnabled
  split
  · exact lowestSet_is_set h
  · rename_i j rest hn
    have hj : j ∈ (enabledChannels m).filter fun j => decide (i.toNat < j) := hn ▸ List.mem_cons_self
    have hj := mem_enabledChannels.mp (List.mem_filter.mp hj).1
    rw [BitVec.toNat_ofNat, Nat.mod_eq_of_lt hj.1]
    exact hj.2

/-! ## The configuration ENABLE latches (R81) -/

theorem chEnField_latched (ch : ChMask) (bps : BitVec 2) (spp : Nat) (cal : Bool) :
    chEnField (latchedConfig (encodeEnable ch bps spp cal)) = ch := by
  apply BitVec.eq_of_getLsbD_eq
  intro i hi
  have : i = 0 ∨ i = 1 ∨ i = 2 ∨ i = 3 ∨ i = 4 ∨ i = 5 ∨ i = 6 ∨ i = 7 := by omega
  rcases this with rfl | rfl | rfl | rfl | rfl | rfl | rfl | rfl <;>
    simp [chEnField, latchedConfig, encodeEnable, configFieldMask, opcodeBits, placeField]

theorem bpsField_latched (ch : ChMask) (bps : BitVec 2) (spp : Nat) (cal : Bool) :
    bpsField (latchedConfig (encodeEnable ch bps spp cal)) = bps := by
  apply BitVec.eq_of_getLsbD_eq
  intro i hi
  have : i = 0 ∨ i = 1 := by omega
  rcases this with rfl | rfl <;>
    simp [bpsField, latchedConfig, encodeEnable, configFieldMask, opcodeBits, placeField]

theorem sppField_latched (ch : ChMask) (bps : BitVec 2) (spp : Nat) (cal : Bool) (h : spp < 8) :
    sppField (latchedConfig (encodeEnable ch bps spp cal)) = spp := by
  have : (latchedConfig (encodeEnable ch bps spp cal)).extractLsb' 20 3 = BitVec.ofNat 3 spp := by
    apply BitVec.eq_of_getLsbD_eq
    intro i hi
    have : i = 0 ∨ i = 1 ∨ i = 2 := by omega
    rcases this with rfl | rfl | rfl <;>
      simp [latchedConfig, encodeEnable, configFieldMask, opcodeBits, placeField]
  rw [sppField, this, BitVec.toNat_ofNat, Nat.mod_eq_of_lt h]

theorem latchedConfig_masked (w : Word) : latchedConfig w &&& configFieldMask = latchedConfig w := by
  rw [latchedConfig, BitVec.and_assoc, BitVec.and_self]

/-- What a validated configuration satisfies (R79). -/
theorem validate_eq_none {ch : ChMask} {bps : BitVec 2} {spp : Nat} (h : validate ch bps spp = none) :
    1 ≤ spp ∧ spp ≤ min Config.maxSpp (popcount ch) ∧ bps ≠ 2#2 := by
  unfold validate at h
  split at h
  · cases h
  · split at h
    · cases h
    · refine ⟨by omega, by omega, by assumption⟩

/-- What `validate` reports (R79). -/
theorem validate_cause {ch : ChMask} {bps : BitVec 2} {spp : Nat} {c : Cause} (h : validate ch bps spp = some c) :
    c = .cfgSpp ∨ c = .cfgBps := by
  unfold validate at h
  split at h
  · cases h; exact .inl rfl
  · split at h <;> cases h; exact .inr rfl

/-- A legal code selects one of the three widths (R11). -/
theorem widthOf_legal {c : BitVec 2} (h : c ≠ 2#2) : widthOf c = 8 ∨ widthOf c = 16 ∨ widthOf c = 32 := by
  unfold widthOf
  by_cases h0 : c = 0#2
  · simp [h0]
  · by_cases h1 : c = 1#2
    · simp [h1]
    · have h3 : c = 3#2 := by revert h h0 h1; revert c; decide
      simp [h3]

/-! ## Values -/

@[simp] theorem lowBits_toNat (n : Nat) (w : Word) : (lowBits n w).toNat = w.toNat % 2 ^ n % 2 ^ 32 := by
  simp [lowBits]

/-- A justified value fits its word (R103). -/
theorem justify_lt (res w : Nat) (raw : Word) :
    (justify res w raw).toNat < 2 ^ w := by
  have hlt : (lowBits res raw).toNat < 2 ^ res := by
    rw [lowBits_toNat]
    exact lt_of_le_of_lt (Nat.mod_le _ _) (Nat.mod_lt _ (by positivity))
  unfold justify
  split
  · rename_i hle
    rw [BitVec.toNat_ushiftRight, Nat.shiftRight_eq_div_pow, Nat.div_lt_iff_lt_mul (by positivity), ← pow_add]
    rwa [Nat.add_sub_cancel' hle]
  · rename_i hle
    rw [BitVec.toNat_shiftLeft, Nat.shiftLeft_eq]
    refine lt_of_le_of_lt (Nat.mod_le _ _) ?_
    calc (lowBits res raw).toNat * 2 ^ (w - res) < 2 ^ res * 2 ^ (w - res) :=
          Nat.mul_lt_mul_of_pos_right hlt (by positivity)
      _ = 2 ^ w := by rw [← pow_add]; congr 1; omega

/-! ## The FIFO -/

@[simp] theorem dataCount_nil : dataCount [] = 0 := rfl

@[simp] theorem dataCount_data (w : Word) (rest : List WireItem) : dataCount (.data w :: rest) = dataCount rest + 1 :=
  List.countP_cons_of_pos rfl

@[simp] theorem dataCount_ctrl (c : Byte) (rest : List WireItem) : dataCount (.ctrl c :: rest) = dataCount rest := by
  simp [dataCount, isData]

@[simp] theorem dataCount_append (xs ys : List WireItem) : dataCount (xs ++ ys) = dataCount xs + dataCount ys := by
  simp [dataCount]

/-- No outstanding work is: no Data item, no pending conversion, no reader command (R39). -/
theorem outstanding_eq_false {s : State} : s.outstanding = false ↔ dataCount s.fifo = 0 ∧ s.pend = 0#3 ∧ s.rdBusy = false := by
  simp [State.outstanding, and_assoc]

/-! ## Faults -/

/-- Fault entry leaves the block faulted (R122). -/
@[simp] theorem faultEnter_faulted (s : State) (c : Cause) (w : Word) : (s.faultEnter c w).faulted = true := by
  have h : (faultWord c s.fault).getLsbD (causeGroup c) = true := by
    cases c <;> simp [faultWord, causeGroup, causeCode]
  have hg : causeGroup c < 5 := by cases c <;> decide
  refine decide_eq_true ?_
  intro h0
  have := congrArg (fun v => BitVec.getLsbD v (causeGroup c)) h0
  simp [hg, State.faultEnter_fault, h] at this

/-- Dropping a command changes no group bit (R45). -/
@[simp] theorem dropCommand_faulted (s : State) (p : Port) (w : Word) : (s.dropCommand p w).faulted = s.faulted := by
  have h : (s.fault ||| dropBit).extractLsb' 0 5 = s.fault.extractLsb' 0 5 := by
    apply BitVec.eq_of_getLsbD_eq
    intro i hi
    have : i = 0 ∨ i = 1 ∨ i = 2 ∨ i = 3 ∨ i = 4 := by omega
    rcases this with rfl | rfl | rfl | rfl | rfl <;> simp [dropBit]
  simp only [State.faulted, State.dropCommand_fault, h]

/-- What a part of a command that the faulted state drops can do (R72, R73). -/
theorem unlessFaulted_cases (s : State) (p : Port) (w : Word) (f : State → State) :
    (s.faulted = true ∧ s.unlessFaulted p w f = s.dropCommand p w) ∨
    (s.faulted = false ∧ s.unlessFaulted p w f = f s) := by
  unfold State.unlessFaulted
  cases h : s.faulted <;> simp

/-- What a port does with a word that is no command of it (R72, R73). -/
theorem rejectWord_cases (s : State) (p : Port) (w : Word) (e : DecodeError) :
    (s.faulted = true ∧ s.rejectWord p w e = s.dropCommand p w) ∨
    (s.faulted = false ∧ s.rejectWord p w e = s.faultEnter (causeOfError e) w) := by
  unfold State.rejectWord
  cases h : s.faulted <;> simp

/-! ## Pulses -/

/-- What a sampling pulse can do (R93). -/
theorem samplePulse_cases (s : State) (w : Word) :
    (5 ≤ s.occ ∧ s.samplePulse w = .ended ((s.pulse .sample).faultEnter .overrun w)) ∨
    (s.occ < 5 ∧ s.samplePulse w = .goesOn { s.pulse .sample with pend := s.pend + 1#3 }) := by
  have h : (s.pulse .sample).occ = s.occ := rfl
  unfold State.samplePulse
  simp only [h, Config.bufDepth]
  by_cases h5 : 5 ≤ s.occ
  · exact .inl ⟨h5, if_pos h5⟩
  · exact .inr ⟨by omega, if_neg h5⟩

/-- What `n` calibration pulses do (R84). -/
theorem calPulses_eq (n : Nat) (s : State) (ht : s.trig = false) :
    s.calPulses n =
      { s with
        pulseCount := s.pulseCount + BitVec.ofNat 32 n, history := List.replicate n (.pulse .cal) ++ s.history } := by
  induction n generalizing s with
  | zero => simp [State.calPulses]
  | succ n ih =>
    rw [State.calPulses, ih (s.pulse .cal) rfl]
    cases s
    simp only [State.pulse, State.driveTrig] at *
    subst ht
    congr 1
    · rw [BitVec.add_assoc, Nat.add_comm n 1, BitVec.ofNat_add]
    · rw [List.replicate_succ', List.append_assoc]; rfl

/-- What the calibration does (R84): TRIG rests at 0 and six pulses are counted and recorded. -/
theorem calibrate_eq (s : State) :
    s.calibrate =
      { s with
        trig := false, pulseCount := s.pulseCount + 6#32
        history := List.replicate 6 (.pulse .cal) ++ s.history } := by
  rw [State.calibrate, Config.calPulses, State.calPulses, calPulses_eq 5 (s.pulse .cal) rfl]
  have hp : s.pulseCount + 1#32 + BitVec.ofNat 32 5 = s.pulseCount + 6#32 := by rw [BitVec.add_assoc]; rfl
  simp only [State.pulse, State.driveTrig, hp]
  rfl

/-! ## The reader -/

/-- What the loop of TRY_READ does with the tokens at the head of the FIFO (R113). -/
theorem absorbTokens_tokens (codes : List Byte) (rest : List WireItem) (s : State) :
    s.absorbTokens (codes.map WireItem.ctrl ++ rest) =
      (if codes = [] then s
       else { s with
         fifo := rest, rdPos := 0#3
         history := (codes.map fun c => Event.pop (.ctrl c)).reverse ++ s.history }).absorbTokens rest := by
  induction codes generalizing s with
  | nil => rfl
  | cons c codes ih =>
    simp only [List.map_cons, List.cons_append, State.absorbTokens, ih, reduceCtorEq, if_false]
    by_cases hc : codes = []
    · subst hc; simp [State.popTo]
    · simp [hc, State.popTo]

/-- The loop stops at a data word and at the end of the FIFO (R113). -/
theorem absorbTokens_stops (s : State) (rest : List WireItem) (h : ∀ c r, rest ≠ .ctrl c :: r) :
    s.absorbTokens rest = s := by
  match rest with
  | [] => rfl
  | .data _ :: _ => rfl
  | .ctrl c :: r => exact absurd rfl (h c r)

/-- The loop leaves the environment and the parameters as they are. -/
theorem absorbTokens_keeps (items : List WireItem) (s : State) :
    (s.absorbTokens items).env = s.env ∧ (s.absorbTokens items).params = s.params := by
  induction items generalizing s with
  | nil => exact ⟨rfl, rfl⟩
  | cons x rest ih =>
    cases x with
    | data _ => exact ⟨rfl, rfl⟩
    | ctrl c =>
      rw [State.absorbTokens]
      exact ih _

/-! ## The environment (R24) -/

/-- Using a turn changes only the environment. -/
theorem consumeTurn_eq (s : State) : s.consumeTurn = { s with env := s.consumeTurn.env } := by
  unfold State.consumeTurn; split <;> rfl

/-- Using a turn leaves the hosts as they are. -/
@[simp] theorem consumeTurn_host (s : State) (h : HostAgent) : s.consumeTurn.host h = s.host h := by
  unfold State.consumeTurn; cases h <;> split <;> rfl

/-- Taking a draw changes only the environment. -/
theorem consumeDraw_eq (s : State) : s.consumeDraw = { s with env := s.consumeDraw.env } := by
  unfold State.consumeDraw; split <;> rfl

/-- Replacing a host's side changes only the environment. -/
theorem setHost_eq (s : State) (h : HostAgent) (x : HostState) :
    s.setHost h x = { s with env := (s.setHost h x).env } := by
  cases h <;> rfl

/-- Replacing a host's side replaces that host's side and no other. -/
@[simp] theorem setHost_host (s : State) (h g : HostAgent) (x : HostState) :
    (s.setHost h x).host g = if g = h then x else s.host g := by
  cases h <;> cases g <;> rfl

end Sys2Proof.Machine
end

