-- ==== Sys2Proof/Laws/PerInstr.lean ====
section
/-! SUPPORT. Statements about every command as syntax, one lemma per constructor. -/

namespace Sys2Proof.Laws

/-- The OP field of a command's word is the command's opcode (30_encoding.md R64, R68). -/
def OpcodeField.Statement (i : Instr) : Prop := opField (encode i) = opcodeBits (opcodeOf i)

theorem OpcodeField.enable (chEn : ChMask) (bps : BitVec 2) (spp : Nat) (cal : Bool) :
    OpcodeField.Statement (.enable chEn bps spp cal) := by
  apply BitVec.eq_of_getLsbD_eq
  intro k hk
  interval_cases k <;>
    simp [encode, encodeEnable, opField, opcodeOf, opcodeBits, placeField]

theorem OpcodeField.disableAll : OpcodeField.Statement .disableAll := by unfold OpcodeField.Statement; decide

theorem OpcodeField.trigger : OpcodeField.Statement .trigger := by unfold OpcodeField.Statement; decide

theorem OpcodeField.triggerPacket : OpcodeField.Statement .triggerPacket := by unfold OpcodeField.Statement; decide

theorem OpcodeField.read : OpcodeField.Statement .read := by unfold OpcodeField.Statement; decide

theorem OpcodeField.readPacket : OpcodeField.Statement .readPacket := by unfold OpcodeField.Statement; decide

theorem OpcodeField.tryRead : OpcodeField.Statement .tryRead := by unfold OpcodeField.Statement; decide

end Sys2Proof.Laws
end

