-- ==== Sys2Proof/Laws/Step.lean ====
section
/-! SUPPORT. What a step can do, said once: by turn, by access, by accepted word. Proofs about steps cite these instead of
unfolding `step`. -/

namespace Sys2Proof.Machine

/-- A command always answers a next state: its faults are next states too (R122). -/
theorem exec_answers_next (i : Instr) (s : State) : ∃ t, exec i s = .next t := by
  cases i <;> exact ⟨_, rfl⟩

/-- What a turn of an agent of the block can do, and what is left to `hostStep`. -/
theorem takeTurn_cases {t : Turn} {s s' : State} (h : takeTurn t s = .next s') :
    (t = .tileReset ∧ s' = s.tileReset) ∨
    (∃ a, t = .agent a ∧ s.agentEnabled a = false ∧ s' = s) ∨
    (t = .agent .ctrlSeq ∧ s.ctrlSeqEnabled = true ∧ s' = s.ctrlSeqStep) ∨
    (t = .agent .conv ∧ s.convEnabled = true ∧ s' = s.consumeDraw.convStep s.nextDraw) ∨
    (t = .agent .reader ∧ s.readerEnabled = true ∧ s' = s.readerStep) ∨
    (∃ g, t = .agent (.host g) ∧ s.hostEnabled g = true ∧ hostStep g s = .next s') := by
  cases t with
  | tileReset => cases h; exact .inl ⟨rfl, rfl⟩
  | agent a =>
    simp only [takeTurn] at h
    split at h
    · rename_i he
      cases a with
      | ctrlSeq => cases h; exact .inr (.inr (.inl ⟨rfl, he, rfl⟩))
      | conv => cases h; exact .inr (.inr (.inr (.inl ⟨rfl, he, rfl⟩)))
      | reader => cases h; exact .inr (.inr (.inr (.inr (.inl ⟨rfl, he, rfl⟩))))
      | host g => exact .inr (.inr (.inr (.inr (.inr ⟨g, rfl, he, h⟩))))
    · rename_i he
      cases h
      exact .inr (.inl ⟨a, rfl, by simpa using he, rfl⟩)

/-- The step is the turn the schedule gives. -/
theorem step_eq (s : State) : step s = takeTurn s.nextTurn s.consumeTurn := rfl

/-- The two registers that take commands are at offsets 0x00 and 0x04 (R50, R52). -/
theorem commandPort_registerAt {k : Nat} {p : Port} (h : commandPort (registerAt k) = some p) :
    4 * k = registerOffset (portRegister p) := by
  match k with
  | 0 => cases h; rfl
  | 1 => cases h; rfl
  | k + 2 =>
    exfalso
    unfold registerAt at h
    split at h <;> cases h <;> omega

/-- Which accesses reach a port: a 32-bit access at the offset of its register. -/
theorem commandPort_registerOf {base width addr : Nat} {r : Register} {p : Port}
    (h : registerOf base width addr = some r) (hp : commandPort r = some p) :
    width = 4 ∧ addr = base + registerOffset (portRegister p) := by
  unfold registerOf at h
  split at h
  · rename_i hc
    cases h
    have := commandPort_registerAt hp
    omega
  · cases h

/-- A write of a command to its port reaches the port's register. -/
theorem registerOf_commandWrite (base : Nat) (p : Port) :
    registerOf base 4 (base + registerOffset (portRegister p)) = some (portRegister p) := by
  cases p <;> simp [registerOf, registerOffset, portRegister, registerAt]

/-- What a host agent's step can do when it does not end in a bus error (R51, R52). -/
theorem hostStep_cases {g : HostAgent} {s s' : State} (h : hostStep g s = .next s') :
    ((s.host g).todo = [] ∧ s' = s) ∨
    (∃ a rest x, (s.host g).todo = a :: rest ∧ s' = s.setHost g x ∧ (x.todo = rest ∨ x.todo = a :: rest)) ∨
    (∃ p v rest, (s.host g).todo = s.commandWrite p v :: rest ∧
      acceptWord p v (s.setHost g { todo := rest, lastRead := (s.host g).lastRead }) = .next s') := by
  unfold hostStep at h
  split at h
  · rename_i hn; cases h; exact .inl ⟨hn, rfl⟩
  · rename_i a rest hn
    split at h
    · cases h
    · rename_i r hr
      cases a with
      | read width addr =>
        cases h; exact .inr (.inl ⟨_, rest, _, hn, rfl, .inl rfl⟩)
      | poll width addr mask want =>
        cases h
        refine .inr (.inl ⟨_, rest, _, hn, rfl, ?_⟩)
        dsimp only
        split
        · exact .inl rfl
        · exact .inr rfl
      | write width addr v =>
        simp only [performAccess, writeRegister] at h
        split at h
        · rename_i p hp
          obtain ⟨rfl, rfl⟩ := commandPort_registerOf hr hp
          exact .inr (.inr ⟨p, v, rest, hn, h⟩)
        · cases h; exact .inr (.inl ⟨_, rest, _, hn, rfl, .inl rfl⟩)

/-- A host agent that has a step and presents a word to a port presents it to a free port (R53). -/
theorem hostEnabled_commandWrite {g : HostAgent} {s : State} {p : Port} {v : Word} {rest : List Access}
    (hn : (s.host g).todo = s.commandWrite p v :: rest) : s.hostEnabled g = !s.portBusy p := by
  have : commandPort (portRegister p) = some p := by cases p <;> rfl
  simp [State.hostEnabled, hn, State.commandWrite, State.stalls, registerOf_commandWrite, this]

/-- What a port can do with a word (R72, R73). -/
theorem acceptWord_cases {p : Port} {v : Word} {s s' : State} (h : acceptWord p v s = .next s') :
    (∃ i, decode p v = .ok i ∧ exec i (s.record (.accept p v)) = .next s') ∨
    (∃ e, decode p v = .error e ∧ s' = (s.record (.accept p v)).rejectWord p v e) := by
  unfold acceptWord at h
  dsimp only at h
  split at h
  · rename_i i hd; exact .inl ⟨i, hd, h⟩
  · rename_i e hd; cases h; exact .inr ⟨e, hd, rfl⟩

/-- A command leaves the environment and the parameters as they are (R24). -/
theorem exec_keeps {i : Instr} {s t : State} (h : exec i s = .next t) : t.env = s.env ∧ t.params = s.params := by
  cases i <;> cases h
  · unfold State.unlessFaulted
    dsimp only
    split
    · exact ⟨rfl, rfl⟩
    · unfold State.enableBody
      split
      · exact ⟨rfl, rfl⟩
      · split
        · exact ⟨rfl, rfl⟩
        · rw [calibrate_eq]; exact ⟨rfl, rfl⟩
  · split <;> exact ⟨rfl, rfl⟩
  · unfold State.unlessFaulted State.triggerBody State.samplePulse
    dsimp only
    (repeat' split) <;> exact ⟨rfl, rfl⟩
  · unfold State.unlessFaulted State.triggerPacketBody
    dsimp only
    (repeat' split) <;> exact ⟨rfl, rfl⟩
  · unfold State.unlessFaulted State.readBody
    dsimp only
    (repeat' split) <;> exact ⟨rfl, rfl⟩
  · unfold State.unlessFaulted State.readPacketBody
    dsimp only
    (repeat' split) <;> exact ⟨rfl, rfl⟩
  · unfold State.unlessFaulted State.tryReadBody
    have h := absorbTokens_keeps s.fifo s
    dsimp only
    (repeat' split) <;> first | exact ⟨rfl, rfl⟩ | exact h

end Sys2Proof.Machine
end

