-- ==== Sys2Proof/Tests/Slice0.lean ====
section
/-! SUPPORT. Tests of single steps against 95_test_vectors.md (each names its vector), the refusals of `WellFormed`, the decoding
of words written out from 30_encoding.md, and for every obligation with hypotheses a state that meets them. -/

namespace Sys2Proof.Tests

open Sys2Proof.Machine

/-! ## WellFormed refuses an ill-formed term for each check -/

theorem test_wellFormed_refuses_wide_spp : (Instr.enable 0xFF#8 0#2 8 false).wellFormed = false := by decide
theorem test_wellFormed_takes_widest_spp : (Instr.enable 0xFF#8 3#2 7 true).wellFormed = true := by decide
theorem test_wellFormed_refuses_wide_payload : (WireItem.data 0x100#32).wellFormed 8 = false := by decide
theorem test_wellFormed_takes_full_payload : (WireItem.data 0xFF#32).wellFormed 8 = true := by decide
theorem test_wellFormed_refuses_adcRes_0 : (Params.mk 0 1#8 64).wellFormed = false := by decide
theorem test_wellFormed_refuses_adcRes_33 : (Params.mk 33 1#8 64).wellFormed = false := by decide
theorem test_wellFormed_refuses_unaligned_base : (Params.mk 12 1#8 65).wellFormed = false := by decide
theorem test_wellFormed_takes_defaults : Config.defaultParams.wellFormed = true := by decide

/-! ## Decoding (30_encoding.md R65, R66, R68; 95_test_vectors.md X1, 2.2) -/

/-- CAL 1, SPP 101, BPS 01, CH_EN 10110011, OP 0001 at the places of R65. -/
theorem test_decode_enable : decode .ctrl 0b0000000_1_0_101_00_01_10110011_0000_0001#32 = .ok (.enable 0xB3#8 1#2 5 true) := by
  decide
theorem test_decode_disableAll : decode .ctrl 0x00000002#32 = .ok .disableAll := by decide
theorem test_decode_trigger : decode .ctrl 0x00000003#32 = .ok .trigger := by decide
theorem test_decode_triggerPacket : decode .ctrl 0x00000004#32 = .ok .triggerPacket := by decide
theorem test_decode_read : decode .rd 0x00000008#32 = .ok .read := by decide
theorem test_decode_readPacket : decode .rd 0x00000009#32 = .ok .readPacket := by decide
theorem test_decode_tryRead : decode .rd 0x0000000A#32 = .ok .tryRead := by decide
/-- V-E3: the reserved OP is found before any field is looked at. -/
theorem test_decode_reserved_op : decode .ctrl 0x0031070F#32 = .error .reservedOp := by decide
/-- V-E7: the wrong port is found before the reserved bits. -/
theorem test_decode_wrong_port : decode .ctrl 0x00000018#32 = .error .wrongPort := by decide
/-- V-E8. -/
theorem test_decode_reserved_bit : decode .rd 0x00000018#32 = .error .reservedBits := by decide
/-- V-E10 to V-E15: the reserved bits of ENABLE at both ends of each reserved field. -/
theorem test_decode_enable_reserved_bits :
    [0x00310711#32, 0x00310781#32, 0x00350701#32, 0x00390701#32, 0x00B10701#32, 0x02310701#32, 0x80310701#32].map
      (fun w => decide (decode .ctrl w = .error .reservedBits)) = List.replicate 7 true := by decide
/-- The table's rows, as the host numbers them. -/
theorem test_decodeTableWord :
    [1, 2, 3, 4, 8, 9, 0xA, 0].map (decodeTableWord 32) =
      [some (.enable 0#8 0#2 0 false), some .disableAll, some .trigger, some .triggerPacket, some .read, some .readPacket,
        some .tryRead, none] := by decide

/-! ## States -/

/-- The block after a valid ENABLE of the configuration `cfg`, whose lowest enabled channel is `ch` (R81), at rest. -/
def enabledAs (cfg : Word) (ch : BitVec 3) : State :=
  { State.reset with
    enabled := true, config := cfg, chptr := ch, pulseCount := 6#32, history := List.replicate 6 (.pulse .cal) }

/-- V-C1's end: channels 0 to 2, 16 bits, 3 samples a packet. -/
def idle16 : State := enabledAs 0x00310700#32 0#3

/-- The END token of the default parameters (R75). -/
def endToken : WireItem := .ctrl 0x01#8

/-- V-P1's end: one packet of three words on the wire. -/
def onePacket : State :=
  { idle16 with
    fifo := [.data 0x1230#32, .data 0x4560#32, .data 0x7890#32, endToken]
    pulseCount := 9#32, history := List.replicate 9 (.pulse .sample) }

/-- V-R8 before its READ_PACKET: the first word of that packet is taken. -/
def midPacket : State :=
  { onePacket with fifo := [.data 0x4560#32, .data 0x7890#32, endToken], rdPos := 1#3 }

/-- The three words of the packet are taken and the token is next; the first word of the next packet is behind it. -/
def tokenNext : State :=
  { onePacket with fifo := [endToken, .data 0x10#32], rdPos := 3#3, pktcnt := 1#3, chptr := 1#3 }

/-- Only the token is left. -/
def tokenOnly : State := { onePacket with fifo := [endToken], rdPos := 3#3 }

/-- V-C4's start: one conversion pending. -/
def onePending : State :=
  { idle16 with pend := 1#3, pulseCount := 7#32, history := List.replicate 7 (.pulse .sample) }

/-- V-T7's end: five conversions pending, at the ceiling. -/
def fivePending : State :=
  { enabledAs 0x0053FF00#32 0#3 with
    pend := 5#3, pulseCount := 11#32, history := List.replicate 11 (.pulse .sample) }

/-- A READ in progress (R107). -/
def reading (s : State) : State := { s with rdOp := .read, rdWord := 0x8#32, rdValid := false, rdBusy := true }

/-- A READ_PACKET in progress that has taken RD_POS words (R110). -/
def readingPacket (s : State) : State :=
  { s with rdOp := .readPacket, rdWord := 0x9#32, rdIdx := s.rdPos, rdBusy := true }

/-- A TRIGGER_PACKET in progress with `n` pulses to go (R96). -/
def triggering (s : State) (n : BitVec 3) : State :=
  { s with ctrlOp := .triggerPacket, ctrlWord := 0x4#32, tpRem := n, ctrlBusy := true }

/-- V-E1's end: faulted by the word 0. -/
def faultedReset : State :=
  { State.reset with fault := 0x101#32, history := [.fault .cmdReservedOp] }

/-- A faulted block that is still enabled, with work outstanding (V-C4's end). -/
def faultedBusy : State :=
  { onePending with
    fault := 0x704#32, faultCmd := 0x00310701#32, history := .fault .seqBusy :: onePending.history }

/-- The state in which host agent `h` has the accesses `as` to perform, and the turn. -/
def withAccesses (s : State) (h : HostAgent) (as : List Access) : State :=
  let t := s.setHost h { todo := as, lastRead := none }
  { t with env := { t.env with turns := [.agent (.host h)] } }

/-! ## One step each -/

/-- X1 row 6, V-C3: CHPTR is the lowest enabled channel; six pulses. -/
theorem test_enable_programs :
    let t := State.reset.after (.enable 0xA4#8 0#2 3 false)
    (t.config, t.statusWord, t.pulseCount, t.fault) = (0x0030A400#32, 0x00020001#32, 6#32, 0#32) := by decide
/-- V-C4. -/
theorem test_enable_busy :
    let t := onePending.after (.enable 0x07#8 1#2 3 false)
    (t.fault, t.faultCmd, t.statusWord, t.config) = (0x704#32, 0x00310701#32, 0x10001103#32, 0x00310700#32) := by decide
/-- V-C8: a held READ is outstanding work; the power-down happens all the same. RD_WORD is not among what R134 says survives. -/
theorem test_disableAll_busy :
    let t := (reading idle16).after .disableAll
    (t.fault, t.faultCmd, t.statusWord, t.config, t.rdWord) = (0x704#32, 2#32, 2#32, 0#32, 0#32) := by decide
/-- V-E18: executed in the faulted state, FAULT unchanged. -/
theorem test_disableAll_faulted :
    (faultedBusy.after .disableAll).fault = 0x704#32 ∧ (faultedBusy.after .disableAll).statusWord = 2#32 := by decide
/-- V-T3. -/
theorem test_trigger_queues :
    (idle16.after .trigger).statusWord = 0x10001101#32 ∧ (idle16.after .trigger).pulseCount = 7#32 := by decide
/-- P3: at the ceiling the pulse is issued and the overrun raised. -/
theorem test_trigger_overruns :
    let t := fivePending.after .trigger
    (t.fault, t.faultCmd, t.pulseCount, t.occ) = (0x808#32, 3#32, 12#32, 5) := by decide
/-- V-T6. -/
theorem test_triggerPacket_starts :
    let t := (enabledAs 0x0053FF00#32 0#3).after .triggerPacket
    (t.statusWord, t.tpRem, t.pulseCount) = (5#32, 5#3, 6#32) := by decide
/-- V-T8, its last step. -/
theorem test_ctrlSeq_overruns :
    let t := (triggering fivePending 1#3).ctrlSeqStep
    (t.fault, t.faultCmd, t.ctrlBusy, t.tpRem, t.statusWord) = (0x808#32, 4#32, false, 0#3, 0x10005503#32) := by decide
/-- V-P1, its last step: the word, then the END token. -/
theorem test_conv_ends_packet :
    (({ onePending with pktcnt := 2#3, chptr := 2#3 }).convStep 0x789#32).fifo = [.data 0x7890#32, endToken] ∧
    (({ onePending with pktcnt := 2#3, chptr := 2#3 }).convStep 0x789#32).chptr = 0#3 := by decide
/-- V-J1, V-J5, V-J6, V-J7. -/
theorem test_justify :
    [justify 12 8 0xABC#32, justify 12 16 0xABC#32, justify 12 32 0xABC#32, justify 12 16 0x801#32, justify 16 8 0xABCD#32,
      justify 8 32 0x5A#32] = [0xAB#32, 0xABC0#32, 0xABC00000#32, 0x8010#32, 0xAB#32, 0x5A000000#32] := by decide
/-- V-T12: the rotation over a sparse mask. -/
theorem test_nextEnabled : [2#3, 5#3, 7#3].map (nextEnabled 0xA4#8) = [5#3, 7#3, 2#3] := by decide
/-- V-R3. -/
theorem test_read_delivers :
    let t := (reading { idle16 with fifo := [.data 0xABC0#32], pktcnt := 1#3, chptr := 1#3 }).readerStep
    (t.sample, t.rdPos, t.statusWord) = (0xABC0#32, 1#3, 0x21110011#32) := by decide
/-- V-R4: the token is taken and the READ goes on. -/
theorem test_read_absorbs_token :
    (reading tokenNext).readerStep.fifo = [.data 0x10#32] ∧ (reading tokenNext).readerStep.rdBusy = true ∧
    (reading tokenNext).readerStep.rdPos = 0#3 := by decide
/-- V-R8. -/
theorem test_readPacket_misaligned :
    let t := midPacket.after .readPacket
    (t.fault, t.faultCmd, t.fifo) = (0xB10#32, 9#32, midPacket.fifo) := by decide
/-- V-R6, its second step. -/
theorem test_readPacket_takes_word :
    (readingPacket midPacket).readerStep.pktBuf[1] = 0x4560#32 ∧ (readingPacket midPacket).readerStep.rdIdx = 2#3 := by
  decide
/-- V-R9. -/
theorem test_tryRead_delivers :
    let t := ({ enabledAs 0x00100100#32 0#3 with fifo := [.data 0x5A#32, endToken] }).after .tryRead
    (t.sample, t.fifo, t.statusWord) = (0x5A#32, [endToken], 0x21000011#32) := by decide
/-- V-R10. -/
theorem test_tryRead_absorbs_token :
    let t := ({ enabledAs 0x00100100#32 0#3 with
      fifo := [endToken], rdPos := 1#3, rdValid := true, sample := 0x5A#32 }).after .tryRead
    (t.sample, t.fifo, t.statusWord) = (0x5A#32, [], 1#32) := by decide
/-- V-E17: a malformed word is dropped while faulted. -/
theorem test_faulted_drops :
    (outcomeState faultedReset (acceptWord .ctrl 0x12#32 faultedReset)).fault = 0x181#32 := by decide

/-- V-M4, V-M5, V-M6: a width, an alignment and an address that are bus errors. -/
theorem test_bus_errors :
    step (withAccesses State.reset .ctrlHost [.write 2 0x00 0#32]) = .fault (.busError .ctrlHost 0x00) ∧
    step (withAccesses State.reset .rdHost [.read 4 0x02]) = .fault (.busError .rdHost 0x02) ∧
    step (withAccesses State.reset .ctrlHost [.read 4 0x40]) = .fault (.busError .ctrlHost 0x40) :=
  ⟨rfl, rfl, rfl⟩
/-- V-M2: a write to a read-only register is ignored. -/
theorem test_write_ignored :
    step (withAccesses State.reset .ctrlHost [.write 4 0x08 0xFFFFFFFF#32]) = .next State.reset := rfl
/-- V-M8: a command write to a busy port waits. -/
theorem test_write_stalls :
    (withAccesses (triggering idle16 3#3) .ctrlHost [.write 4 0x00 3#32]).hostEnabled .ctrlHost = false := by decide
/-- V-E16 through the window: the word placed by `withFetchWord` runs in the very next step. -/
theorem test_withFetchWord_runs :
    (outcomeState State.reset (step (State.reset.withFetchWord 32 0x8))).fault = 0x604#32 := by decide

/-! ## Witnesses: a concrete state and operands that meet the hypotheses of each obligation -/

theorem wellBehaved_idle16 : idle16.WellBehaved :=
  ⟨by decide, by decide, by decide, by decide, by decide, by decide, by decide, by decide, by decide, by decide, by decide⟩
theorem wellBehaved_onePacket : onePacket.WellBehaved :=
  ⟨by decide, by decide, by decide, by decide, by decide, by decide, by decide, by decide, by decide, by decide, by decide⟩
theorem wellBehaved_tokenNext : tokenNext.WellBehaved :=
  ⟨by decide, by decide, by decide, by decide, by decide, by decide, by decide, by decide, by decide, by decide, by decide⟩
theorem wellBehaved_reading_onePacket : (reading onePacket).WellBehaved :=
  ⟨by decide, by decide, by decide, by decide, by decide, by decide, by decide, by decide, by decide, by decide, by decide⟩
theorem wellBehaved_reading_tokenNext : (reading tokenNext).WellBehaved :=
  ⟨by decide, by decide, by decide, by decide, by decide, by decide, by decide, by decide, by decide, by decide, by decide⟩
theorem wellBehaved_readingPacket_midPacket : (readingPacket midPacket).WellBehaved :=
  ⟨by decide, by decide, by decide, by decide, by decide, by decide, by decide, by decide, by decide, by decide, by decide⟩
theorem wellBehaved_readingPacket_tokenOnly : (readingPacket tokenOnly).WellBehaved :=
  ⟨by decide, by decide, by decide, by decide, by decide, by decide, by decide, by decide, by decide, by decide, by decide⟩
theorem wellBehaved_fivePending : fivePending.WellBehaved :=
  ⟨by decide, by decide, by decide, by decide, by decide, by decide, by decide, by decide, by decide, by decide, by decide⟩
theorem wellBehaved_faultedBusy : faultedBusy.WellBehaved :=
  ⟨by decide, by decide, by decide, by decide, by decide, by decide, by decide, by decide, by decide, by decide, by decide⟩

theorem witness_DecodeEncodeAgree : (Instr.enable 0xFF#8 3#2 7 true).wellFormed = true := by decide
theorem witness_DecodedWordIsEncoding : decode .ctrl 0x0173FF01#32 = .ok (.enable 0xFF#8 3#2 7 true) := by decide
theorem witness_ReservedOpcodeFaults : State.reset.faulted = false ∧
    opField 0x0031070F#32 ∈ [0x0#4, 0x5#4, 0x6#4, 0x7#4, 0xB#4, 0xC#4, 0xD#4, 0xE#4, 0xF#4] := by decide
theorem witness_WrongPortFaults : State.reset.faulted = false ∧ opField 0x0000000A#32 ∈ [0x8#4, 0x9#4, 0xA#4] ∧
    opField 0x00310701#32 ∈ [0x1#4, 0x2#4, 0x3#4, 0x4#4] := by decide
theorem witness_ReservedBitsFault : State.reset.faulted = false ∧
    (opField 0x80310701#32 = 0x1#4 ∧ 0x80310701#32 &&& 0xFE8C00F0#32 ≠ 0#32) ∧
    (opField 0x00000014#32 ∈ [0x2#4, 0x3#4, 0x4#4] ∧ 0x00000014#32 >>> 4 ≠ 0#32) ∧
    (opField 0x80000008#32 ∈ [0x8#4, 0x9#4, 0xA#4] ∧ 0x80000008#32 >>> 4 ≠ 0#32) := by decide
theorem witness_TaggedItemsReadBack : 32 ≤ 32 ∧ (WireItem.data 0xFFFFFFFF#32).wellFormed 32 = true ∧ 0 ≤ 32 ∧
    (WireItem.data 0#32).wellFormed 0 = true ∧ (WireItem.ctrl 0xFF#8).wellFormed 8 = true := by decide
/-- Each way to be refused at its first refused value, and the accepted operands at their largest. -/
theorem witness_AssembledEnableWord : (9 ∉ [8, 16, 32]) ∧ 0xFF < 0x100 ∧ 7 < 8 ∧ 1 < 2 ∧
    assembleEnable 0xFF 32 7 1 = some (.enable 0xFF#8 3#2 7 true) := by decide
theorem witness_StepRunsDecodedCommand :
    let s := withAccesses idle16 .ctrlHost [idle16.commandWrite .ctrl 3#32]
    s.nextTurn = .agent (.host .ctrlHost) ∧ (s.host .ctrlHost).todo = s.commandWrite .ctrl 3#32 :: [] ∧
    s.portBusy .ctrl = false ∧ decode .ctrl 3#32 = .ok .trigger := ⟨rfl, rfl, rfl, rfl⟩
theorem witness_PresentedWordRunsNext : decodeTableWord 32 0x01310701 = some (.enable 7#8 1#2 3 true) := by decide
/-- The first and the last offset of the window. -/
theorem witness_RegisterReads :
    ((withAccesses idle16 .rdHost [.read 4 (0 + 0x00)]).host .rdHost).todo = .read 4 (idle16.params.adcBase + 0x00) :: [] ∧
    ((withAccesses idle16 .rdHost [.read 4 (0 + 0x3C)]).host .rdHost).todo = .read 4 (idle16.params.adcBase + 0x3C) :: [] :=
  ⟨rfl, rfl⟩
/-- The first and the last offset that ignores a write. -/
theorem witness_OtherWritesIgnored :
    ((withAccesses idle16 .ctrlHost [.write 4 (0 + 8) 1#32]).host .ctrlHost).todo
      = .write 4 (idle16.params.adcBase + 8) 1#32 :: [] ∧ 8 ≤ 8 ∧ 8 ≤ 0x3C ∧ 8 % 4 = 0 ∧
    ((withAccesses idle16 .ctrlHost [.write 4 (0 + 0x3C) 1#32]).host .ctrlHost).todo
      = .write 4 (idle16.params.adcBase + 0x3C) 1#32 :: [] ∧ 8 ≤ 0x3C ∧ 0x3C ≤ 0x3C ∧ 0x3C % 4 = 0 := by decide
theorem witness_BusyPortStalls :
    let s := withAccesses (reading idle16) .rdHost [idle16.commandWrite .rd 8#32]
    let t := withAccesses idle16 .rdHost [idle16.commandWrite .rd 8#32]
    (s.host .rdHost).todo = s.commandWrite .rd 8#32 :: [] ∧ s.portBusy .rd = true ∧ s.nextTurn = .agent (.host .rdHost) ∧
    (t.host .rdHost).todo = t.commandWrite .rd 8#32 :: [] ∧ t.portBusy .rd = false := ⟨rfl, rfl, rfl, rfl, rfl⟩
/-- The base of `BusErrors`' witnesses is 64, so that an address below the window exists. -/
def basedAt64 : State := { idle16 with params := { idle16.params with adcBase := 64 } }
theorem witness_BusErrors : ∀ a ∈ [Access.read 2 64, .read 4 65, .read 4 63, .read 4 128],
    basedAt64.params.wellFormed = true ∧ (withAccesses basedAt64 .rdHost [a]).nextTurn = .agent (.host .rdHost) ∧
    ((withAccesses basedAt64 .rdHost [a]).host .rdHost).todo = a :: [] ∧
    ((accessTarget a).1 ≠ 4 ∨ (accessTarget a).2 % 4 ≠ 0 ∨ (accessTarget a).2 < basedAt64.params.adcBase ∨
      basedAt64.params.adcBase + 0x3F < (accessTarget a).2) := by decide
/-- The first and the last row, with the group bit, a bit below 8 and a bit from 12 up. -/
theorem witness_FaultEntryEffect : (idle16.faultEnter .cmdReservedOp 5#32).fault = 0x101#32 ∧
    (idle16.faultEnter .protoMisaligned 9#32).fault = 0xB10#32 ∧ (0 < 8 ∨ 12 ≤ 0) ∧ (31 < 8 ∨ 12 ≤ 31) := by decide
theorem witness_FaultedDropsCommands : faultedBusy.faulted = true ∧ ¬(Port.ctrl = .ctrl ∧ 0x12#32 = 0x00000002#32) ∧
    ¬(Port.rd = .ctrl ∧ 0x2#32 = 0x00000002#32) := by decide
/-- A faulted block whose host sends a command that is dropped, and one whose host sends DISABLE_ALL. -/
theorem witness_FaultStaysUntilReset :
    ∀ v ∈ [3#32, 2#32], ∃ t, faultedBusy.faulted = true ∧
      (withAccesses faultedBusy .ctrlHost [.write 4 0 v]).nextTurn ≠ .tileReset ∧
      step (withAccesses faultedBusy .ctrlHost [.write 4 0 v]) = .next t := by
  intro v hv
  fin_cases hv <;> exact ⟨_, by decide, by decide, rfl⟩
theorem witness_FaultedBlockIsFrozen :
    (outcomeState State.reset (step (withAccesses faultedBusy .ctrlHost [.write 4 0 3#32]))).pend = 1#3 ∧
    (outcomeState faultedBusy (step (withAccesses faultedBusy .ctrlHost [.write 4 0 2#32]))).pend = 0#3 := by decide
theorem witness_CommandsFaultWhileDisabled : State.reset.faulted = false ∧ State.reset.enabled = false ∧
    Instr.tryRead ∈ [Instr.trigger, .triggerPacket, .read, .readPacket, .tryRead] := by decide
/-- Each clause at its boundary: SPP 0, SPP above C, BPS 2 with a good SPP, and good operands at the smallest and the largest. -/
theorem witness_ValidationOrder :
    [validate 0x07#8 0#2 0, validate 0x07#8 2#2 4, validate 0xFF#8 0#2 6, validate 0x00#8 0#2 1, validate 0x07#8 2#2 3,
      validate 0x01#8 0#2 1, validate 0xFF#8 3#2 5] =
    [some .cfgSpp, some .cfgSpp, some .cfgSpp, some .cfgSpp, some .cfgBps, none, none] := by decide
theorem witness_InvalidEnableOnlyFaults : idle16.faulted = false ∧ validate 0x07#8 1#2 6 = some .cfgSpp ∧
    validate 0x07#8 2#2 3 = some .cfgBps := by decide
/-- Each kind of outstanding work. -/
theorem witness_BusyEnableFaults : validate 0x07#8 1#2 3 = none ∧
    (onePacket.faulted = false ∧ .data 0x1230#32 ∈ onePacket.fifo) ∧
    (onePending.faulted = false ∧ onePending.pend ≠ 0#3) ∧
    ((reading idle16).faulted = false ∧ (reading idle16).rdBusy = true) := by decide
/-- A re-enable with a token left on the wire (V-C3), and the first ENABLE after reset. -/
theorem witness_EnableProgramsAndCalibrates :
    (tokenOnly.faulted = false ∧ (∀ x ∈ tokenOnly.fifo, ∃ c, x = .ctrl c) ∧ tokenOnly.pend = 0#3 ∧ tokenOnly.rdBusy = false) ∧
    (State.reset.faulted = false ∧ (∀ x ∈ State.reset.fifo, ∃ c, x = .ctrl c) ∧ State.reset.pend = 0#3 ∧
      State.reset.rdBusy = false) ∧
    1 ≤ 5 ∧ 5 ≤ min 5 ((List.range 8).filter fun i => (0x1F#8).getLsbD i).length ∧ 1#2 ≠ 2#2 :=
  ⟨⟨rfl, by simp [tokenOnly, endToken], rfl, rfl⟩, ⟨rfl, by simp [State.reset], rfl, rfl⟩, by decide⟩
theorem witness_DisableAllPowersDown : faultedBusy.faulted = true ∧ idle16.outstanding = false ∧
    (fivePending.WellBehaved ∧ fivePending.ctrlBusy = false) :=
  ⟨by decide, by decide, wellBehaved_fivePending, by decide⟩
theorem witness_BusyDisableAllFaultsAndPowersDown :
    (onePacket.faulted = false ∧ 0 < dataCount onePacket.fifo) ∧ (onePending.faulted = false ∧ onePending.pend ≠ 0#3) ∧
    ((reading idle16).faulted = false ∧ (reading idle16).rdBusy = true) := by decide
theorem witness_FailedEnableInvisibleToDisable : fivePending.WellBehaved ∧ fivePending.faulted = false ∧
    fivePending.ctrlBusy = false ∧ validate 0x07#8 1#2 6 ≠ none ∧ fivePending.outstanding = true :=
  ⟨wellBehaved_fivePending, by decide, by decide, by decide, by decide⟩
theorem witness_TriggerQueuesConversion : ({ fivePending with pend := 4#3 }).faulted = false ∧
    ({ fivePending with pend := 4#3 }).enabled = true ∧ ({ fivePending with pend := 4#3 }).occ < 5 := by decide
theorem witness_TriggerAtCeilingOverruns : fivePending.faulted = false ∧ fivePending.enabled = true ∧ 5 ≤ fivePending.occ := by
  decide
theorem witness_TriggerPacketStarts : idle16.faulted = false ∧ idle16.enabled = true := by decide
/-- A step that is not the last, a last step, and an overrun. -/
theorem witness_CtrlSeqStepPulses : (triggering idle16 3#3).occ < 5 ∧ (triggering idle16 1#3).occ < 5 ∧
    5 ≤ (triggering fivePending 1#3).occ := by decide
theorem witness_TriggerPacketIssuesItsPulses :
    let s := enabledAs 0x0053FF00#32 0#3
    s.faulted = false ∧ s.enabled = true ∧ 1 ≤ s.spp ∧ s.occ + s.spp ≤ 5 := by decide
theorem witness_JustifyScales : 1 ≤ 1 ∧ 1 ≤ 32 ∧ 32 ≤ 32 ∧ 8 ∈ [8, 16, 32] ∧ 32 ∈ [8, 16, 32] := by decide
theorem witness_ConvStepPushesWord : ({ onePending with pktcnt := 2#3 }).pktcnt.toNat + 1 = onePending.spp ∧
    onePending.pktcnt.toNat + 1 ≠ onePending.spp := by decide
/-- A set channel above the one given, and none above it. -/
theorem witness_NextEnabledIsCyclicSuccessor : 0xA4#8 ≠ 0#8 ∧ ((2#3).toNat < 7 ∧ (0xA4#8).getLsbD 7 = true) ∧
    (∀ j, (7#3).toNat < j → (0xA4#8).getLsbD j = false) :=
  ⟨by decide, by decide, fun j hj => BitVec.getLsbD_of_ge _ j hj⟩
theorem witness_ChannelsRotateInOrder : 0x80#8 ≠ 0#8 ∧ 0xFF#8 ≠ 0#8 := by decide
theorem witness_ReadStarts : idle16.faulted = false ∧ idle16.enabled = true := by decide
theorem witness_ReadStepDelivers :
    ((reading tokenNext).rdOp = .read ∧ (reading tokenNext).fifo = .ctrl 0x01#8 :: [.data 0x10#32]) ∧
    ((reading midPacket).rdOp = .read ∧ (reading midPacket).fifo = .data 0x4560#32 :: [.data 0x7890#32, endToken]) := by decide
theorem witness_ReadPacketStarts : (onePacket.faulted = false ∧ onePacket.enabled = true ∧ onePacket.rdPos = 0#3) ∧
    (midPacket.faulted = false ∧ midPacket.enabled = true ∧ midPacket.rdPos ≠ 0#3) := by decide
/-- A word and a token where each is due, and where it is not. -/
theorem witness_ReadPacketStepTakesItem : (∀ s : State, (readingPacket s).rdOp = .readPacket) ∧
    ((readingPacket midPacket).rdIdx.toNat < midPacket.spp ∧ (readingPacket midPacket).fifo
      = .data 0x4560#32 :: [.data 0x7890#32, endToken]) ∧
    ((readingPacket { tokenNext with rdPos := 2#3 }).rdIdx.toNat < tokenNext.spp ∧
      (readingPacket { tokenNext with rdPos := 2#3 }).fifo = .ctrl 0x01#8 :: [.data 0x10#32]) ∧
    (midPacket.spp ≤ (readingPacket { midPacket with rdPos := 3#3 }).rdIdx.toNat ∧
      (readingPacket { midPacket with rdPos := 3#3 }).fifo = .data 0x4560#32 :: [.data 0x7890#32, endToken]) ∧
    (tokenNext.spp ≤ (readingPacket tokenNext).rdIdx.toNat ∧
      (readingPacket tokenNext).fifo = .ctrl 0x01#8 :: [.data 0x10#32]) :=
  ⟨fun _ => rfl, by decide⟩
/-- Both results, each with no token at the head and with one. -/
theorem witness_TryReadResult : (∀ s ∈ [midPacket, tokenNext, idle16, tokenOnly], s.faulted = false ∧ s.enabled = true) ∧
    midPacket.fifo = [].map WireItem.ctrl ++ .data 0x4560#32 :: [.data 0x7890#32, endToken] ∧
    tokenNext.fifo = [0x01#8].map WireItem.ctrl ++ .data 0x10#32 :: [] ∧
    idle16.fifo = [].map WireItem.ctrl ∧ tokenOnly.fifo = [0x01#8].map WireItem.ctrl := by decide
theorem witness_ReadyReadCompletesInTwoSteps : tokenNext.WellBehaved ∧ tokenNext.rdBusy = false ∧ tokenNext.dataReady = true :=
  ⟨wellBehaved_tokenNext, by decide, by decide⟩
theorem witness_ReadyReadPacketCompletes : onePacket.WellBehaved ∧ onePacket.rdBusy = false ∧ onePacket.pktReady = true :=
  ⟨wellBehaved_onePacket, by decide, by decide⟩
theorem witness_SequenceProperty : idle16.WellBehaved ∧ idle16.enabled = true ∧ idle16.faulted = false ∧
    idle16.rdBusy = false ∧ idle16.occ = 0 ∧ idle16.rdPos = 0#3 ∧
    [0x1#32, 0x2#32, 0x3#32, 0x4#32, 0x5#32].length ≤ 5 :=
  ⟨wellBehaved_idle16, by decide, by decide, by decide, by decide, by decide, by decide⟩
theorem witness_PacketIntegrity : idle16.WellBehaved ∧ idle16.enabled = true ∧ idle16.faulted = false ∧
    idle16.ctrlBusy = false ∧ idle16.rdBusy = false ∧ idle16.occ = 0 ∧ idle16.rdPos = 0#3 ∧ idle16.pktcnt = 0#3 ∧
    [0x123#32, 0x456#32, 0x789#32].length = idle16.spp :=
  ⟨wellBehaved_idle16, by decide, by decide, by decide, by decide, by decide, by decide, by decide, by decide⟩
theorem wellBehaved_triggering_idle16 : (triggering idle16 3#3).WellBehaved :=
  ⟨by decide, by decide, by decide, by decide, by decide, by decide, by decide, by decide, by decide, by decide, by decide⟩
theorem wellBehaved_tokenOnly : tokenOnly.WellBehaved :=
  ⟨by decide, by decide, by decide, by decide, by decide, by decide, by decide, by decide, by decide, by decide, by decide⟩

/-- An idle state for each pulse and for the re-enable; a word at the head, and a token with and without a word behind it. -/
theorem witness_ConsumerStateMoves :
    (idle16.WellBehaved ∧ idle16.faulted = false ∧ idle16.enabled = true ∧ idle16.rdState = .idle ∧
      validate 0x01#8 0#2 1 = none ∧ idle16.outstanding = false) ∧
    ((triggering idle16 3#3).WellBehaved ∧ (triggering idle16 3#3).agentEnabled .ctrlSeq = true ∧
      (triggering idle16 3#3).rdState = .idle) ∧
    ((reading onePacket).WellBehaved ∧ (reading onePacket).fifo = .data 0x1230#32 :: onePacket.fifo.tail ∧
      (reading onePacket).rdOp ≠ .none) ∧
    ((reading tokenNext).WellBehaved ∧ (reading tokenNext).fifo = .ctrl 0x01#8 :: [.data 0x10#32] ∧
      (reading tokenNext).rdOp ≠ .none) ∧
    (tokenOnly.WellBehaved ∧ tokenOnly.fifo = .ctrl 0x01#8 :: []) :=
  ⟨⟨wellBehaved_idle16, by decide⟩, ⟨wellBehaved_triggering_idle16, by decide⟩, ⟨wellBehaved_reading_onePacket, by decide⟩,
    ⟨wellBehaved_reading_tokenNext, by decide⟩, ⟨wellBehaved_tokenOnly, by decide⟩⟩
theorem witness_StepKeepsWellBehaved : (readingPacket midPacket).WellBehaved ∧
    ∃ t, step { readingPacket midPacket with env := { Env.start with turns := [.agent .reader] } } = .next t :=
  ⟨wellBehaved_readingPacket_midPacket, _, rfl⟩
theorem witness_TileResetClearsTheBlock :
    ({ faultedBusy with env := { Env.start with turns := [.tileReset] } } : State).nextTurn = .tileReset := rfl
/-- A full FIFO: 11 items (V-P3). -/
def fullFifo : State :=
  { enabledAs 0x00110100#32 0#3 with
    rdPos := 1#3
    fifo := [endToken, .data 0x20#32, endToken, .data 0x30#32, endToken, .data 0x40#32, endToken, .data 0x50#32, endToken,
      .data 0x60#32, endToken] }
theorem witness_FifoHoldsAtMostEleven : fullFifo.WellBehaved ∧ fullFifo.fifo.length = 11 :=
  ⟨⟨by decide, by decide, by decide, by decide, by decide, by decide, by decide, by decide, by decide, by decide, by decide⟩,
    rfl⟩
theorem witness_TokensFrameThePackets : (onePacket.WellBehaved ∧ onePacket.enabled = true ∧ onePacket.rdPos = 0#3) ∧
    (tokenNext.WellBehaved ∧ tokenNext.enabled = true ∧ tokenNext.rdPos.toNat = tokenNext.spp) :=
  ⟨⟨wellBehaved_onePacket, by decide⟩, ⟨wellBehaved_tokenNext, by decide⟩⟩
theorem witness_ReadPacketMeetsDueItem :
    ((readingPacket midPacket).WellBehaved ∧ (readingPacket midPacket).rdOp = .readPacket ∧
      (readingPacket midPacket).fifo = .data 0x4560#32 :: [.data 0x7890#32, endToken]) ∧
    ((readingPacket tokenOnly).WellBehaved ∧ (readingPacket tokenOnly).rdOp = .readPacket ∧
      (readingPacket tokenOnly).fifo = .ctrl 0x01#8 :: []) :=
  ⟨⟨wellBehaved_readingPacket_midPacket, by decide⟩, ⟨wellBehaved_readingPacket_tokenOnly, by decide⟩⟩
/-- A turn of each kind that answers a next state; a host's turn that reads, and one that accepts each command that removes
items. -/
theorem witness_FifoIsInOrder :
    (∀ t ∈ [Turn.agent .conv, .agent .reader, .agent .ctrlSeq, .agent (.host .rdHost), .tileReset],
      ∃ u, step { triggering (readingPacket { midPacket with pend := 1#3 }) 1#3 with
        env := { Env.start with turns := [t] } } = .next u) ∧
    (∃ u, step (withAccesses tokenNext .rdHost [.read 4 8]) = .next u ∧ u.fifo = tokenNext.fifo) ∧
    (∃ u, step (withAccesses tokenNext .rdHost [.write 4 4 0xA#32]) = .next u ∧ u.fifo = []) ∧
    (∃ u, step (withAccesses tokenNext .ctrlHost [.write 4 0 0x2#32]) = .next u ∧ u.fifo = []) ∧
    ∃ u, step (withAccesses tokenOnly .ctrlHost [.write 4 0 0x00310701#32]) = .next u ∧ u.fifo = [] := by
  refine ⟨fun t ht => ?_, ⟨_, rfl, by decide⟩, ⟨_, rfl, by decide⟩, ⟨_, rfl, by decide⟩, ⟨_, rfl, by decide⟩⟩
  fin_cases ht <;> exact ⟨_, rfl⟩
/-- A DISABLE_ALL and an ENABLE that change CONFIG. -/
theorem witness_OnlyEnableAndDisableChangeConfig : ∀ v ∈ [0x2#32, 0x00130701#32],
    (outcomeState State.reset (step (withAccesses idle16 .ctrlHost [.write 4 0 v]))).config ≠ idle16.config ∧
    (withAccesses idle16 .ctrlHost [.write 4 0 v]).nextTurn ≠ .tileReset := by
  intro v hv
  fin_cases hv <;> exact ⟨by decide, by decide⟩
/-- A READER step and a TRY_READ that change SAMPLE. -/
theorem witness_OnlyReaderWritesDataRegisters :
    (outcomeState idle16 (step { reading onePacket with env := { Env.start with turns := [.agent .reader] } })).sample
      ≠ (reading onePacket).sample ∧
    (outcomeState idle16 (step (withAccesses onePacket .rdHost [.write 4 4 0xA#32]))).sample ≠ onePacket.sample := by decide
/-- A host's turn that performs its access, and a tile reset that loses it. -/
theorem witness_HostAccessesKeepTheirOrder :
    (∃ t, step (withAccesses idle16 .rdHost [.read 4 8, .write 4 4 0xA#32]) = .next t ∧
      (t.host .rdHost).todo = [.write 4 4 0xA#32]) ∧
    ∃ t, step { idle16 with env :=
      { Env.start with rdHost := { todo := [.read 4 8], lastRead := none }, turns := [.tileReset] } } = .next t :=
  ⟨⟨_, rfl, rfl⟩, _, rfl⟩

/-! ## Fair runs

The run of a state whose hosts have nothing to do: no step of it is a bus error, and no command is accepted in it. -/

/-- The states of the run that starts in `s`, in order. -/
def runFrom (s : State) : Nat → State
  | 0 => s
  | n + 1 => outcomeState (runFrom s n) (step (runFrom s n))

/-- What a step with idle hosts keeps: the hosts are idle still, an idle control port stays idle, and no conversion is queued
while it is. -/
theorem idleHosts_step {s : State} (hd : s.hostsDone = true) :
    ∃ t, step s = .next t ∧ t.hostsDone = true ∧ (s.ctrlBusy = false → t.ctrlBusy = false ∧ (s.pend = 0#3 → t.pend = 0#3)) := by
  obtain ⟨hc, hr⟩ : s.env.ctrlHost.todo = [] ∧ s.env.rdHost.todo = [] := by
    simpa [State.hostsDone] using hd
  have hu : s.consumeTurn.env.ctrlHost = s.env.ctrlHost ∧ s.consumeTurn.env.rdHost = s.env.rdHost ∧
      s.consumeTurn.ctrlBusy = s.ctrlBusy ∧ s.consumeTurn.pend = s.pend := by
    unfold State.consumeTurn; split <;> exact ⟨rfl, rfl, rfl, rfl⟩
  rw [step_eq]
  generalize s.nextTurn = t
  generalize s.consumeTurn = u at hu
  obtain ⟨h1, h2, h3, h4⟩ := hu
  rw [← h1] at hc
  rw [← h2] at hr
  rw [← h3, ← h4]
  clear h1 h2 h3 h4
  have hw : u.hostsDone = true := by simp [State.hostsDone, hc, hr]
  match t with
  | .tileReset => exact ⟨_, rfl, rfl, fun _ => ⟨rfl, fun _ => rfl⟩⟩
  | .agent (.host g) =>
    refine ⟨u, ?_, hw, fun h => ⟨h, id⟩⟩
    cases g <;> simp [takeTurn, State.agentEnabled, State.hostEnabled, State.host, hc, hr]
  | .agent .ctrlSeq =>
    simp only [takeTurn]
    split
    · rename_i he
      have hb : u.ctrlBusy = true := by simp only [State.agentEnabled, State.ctrlSeqEnabled, Bool.and_eq_true] at he; exact he.1
      refine ⟨_, rfl, ?_, fun h => by rw [hb] at h; cases h⟩
      simp only [State.ctrlSeqStep, State.samplePulse]
      split
      · rename_i v hv
        split at hv <;> cases hv
        exact hw
      · rename_i v hv
        split at hv <;> cases hv
        split <;> exact hw
    · exact ⟨u, rfl, hw, fun h => ⟨h, id⟩⟩
  | .agent .conv =>
    simp only [takeTurn]
    split
    · rename_i he
      have hk : u.consumeDraw.env.ctrlHost = u.env.ctrlHost ∧ u.consumeDraw.env.rdHost = u.env.rdHost ∧
          u.consumeDraw.ctrlBusy = u.ctrlBusy := by
        unfold State.consumeDraw; split <;> exact ⟨rfl, rfl, rfl⟩
      have hcv : ∀ (v : State) (raw : Word),
          (v.convStep raw).env = v.env ∧ (v.convStep raw).ctrlBusy = v.ctrlBusy := by
        intro v raw
        unfold State.convStep State.countWord
        dsimp only
        split <;> exact ⟨rfl, rfl⟩
      obtain ⟨he', hb⟩ := hcv u.consumeDraw u.nextDraw
      refine ⟨_, rfl, ?_, fun h => ⟨by rw [hb, hk.2.2, h], fun hp => ?_⟩⟩
      · rw [State.hostsDone, he', hk.1, hk.2.1]; exact hw
      · simp [State.agentEnabled, State.convEnabled, hp] at he
    · exact ⟨u, rfl, hw, fun h => ⟨h, id⟩⟩
  | .agent .reader =>
    simp only [takeTurn]
    split
    · refine ⟨_, rfl, ?_⟩
      simp only [State.readerStep, State.readStep, State.readPacketStep]
      split
      · exact ⟨hw, fun h => ⟨h, id⟩⟩
      · split <;> exact ⟨hw, fun h => ⟨h, id⟩⟩
      · split
        · exact ⟨hw, fun h => ⟨h, id⟩⟩
        · split
          · exact ⟨hw, fun h => ⟨h, id⟩⟩
          · exact ⟨hw, fun _ => ⟨rfl, id⟩⟩
        · split
          · exact ⟨hw, fun _ => ⟨rfl, id⟩⟩
          · exact ⟨hw, fun h => ⟨h, id⟩⟩
    · exact ⟨u, rfl, hw, fun h => ⟨h, id⟩⟩

theorem runFrom_hostsDone {s : State} (h : s.hostsDone = true) (n : Nat) : (runFrom s n).hostsDone = true := by
  induction n with
  | zero => exact h
  | succ n ih =>
    obtain ⟨t, ht, hd, -⟩ := idleHosts_step ih
    simpa [runFrom, ht, outcomeState] using hd

theorem runFrom_isRun {s : State} (h : s.hostsDone = true) : IsRun (runFrom s) := by
  intro n
  obtain ⟨t, ht, -⟩ := idleHosts_step (runFrom_hostsDone h n)
  simp [runFrom, ht, outcomeState]

/-- Once the control port is idle and nothing is pending, both stay so. -/
theorem runFrom_atRest {s : State} (h : s.hostsDone = true) (h1 : (runFrom s 1).ctrlBusy = false) (n : Nat) :
    (runFrom s (n + 1)).ctrlBusy = false ∧ ((runFrom s 1).pend = 0#3 → (runFrom s (n + 1)).pend = 0#3) := by
  induction n with
  | zero => exact ⟨h1, id⟩
  | succ n ih =>
    obtain ⟨t, ht, -, hk⟩ := idleHosts_step (runFrom_hostsDone h (n + 1))
    have he : runFrom s (n + 1 + 1) = t := by rw [runFrom, ht]; rfl
    rw [he]
    exact ⟨(hk ih.1).1, fun hp => (hk ih.1).2 (ih.2 hp)⟩

/-- The last pulse of a TRIGGER_PACKET is next, and CTRL_SEQ has the turn. -/
def lastPulse : State :=
  { triggering idle16 1#3 with env := { Env.start with turns := [.agent .ctrlSeq] } }

theorem witness_FairTriggerPacketEnds : IsRun (runFrom lastPulse) ∧ WeaklyFair (runFrom lastPulse) .ctrlSeq ∧
    (runFrom lastPulse 0).WellBehaved ∧ (runFrom lastPulse 0).ctrlBusy = true := by
  refine ⟨runFrom_isRun rfl, ?_,
    ⟨by decide, by decide, by decide, by decide, by decide, by decide, by decide, by decide, by decide, by decide, by decide⟩, rfl⟩
  intro n hn
  have := hn (n + 1) (by omega)
  simp [State.agentEnabled, State.ctrlSeqEnabled, (runFrom_atRest (s := lastPulse) rfl (by decide) n).1] at this

/-- One conversion is pending, and CONV has the turn, so that `StepsAt` holds at 0. -/
def lastConversion : State := { onePending with env := { Env.start with turns := [.agent .conv], draws := [0x123#32] } }

theorem witness_FairConversionHappens : IsRun (runFrom lastConversion) ∧ WeaklyFair (runFrom lastConversion) .conv ∧
    (runFrom lastConversion 0).WellBehaved ∧ (runFrom lastConversion 0).pend = 1#3 ∧ StepsAt (runFrom lastConversion) .conv 0 := by
  refine ⟨runFrom_isRun rfl, ?_,
    ⟨by decide, by decide, by decide, by decide, by decide, by decide, by decide, by decide, by decide, by decide, by decide⟩,
    by decide, by decide, by decide⟩
  intro n hn
  have := hn (n + 1) (by omega)
  simp [State.agentEnabled, State.convEnabled,
    (runFrom_atRest (s := lastConversion) rfl (by decide) n).2 (by decide)] at this

end Sys2Proof.Tests
end

section
/-! PROOF. The cyclic successor of a channel mask (00_scope.md R21): the list of set bits is strictly ascending, so the head that
`lowest_set` and `next_enabled` take is the least of the candidates. -/

namespace Sys2Proof.Machine

theorem mem_enabledChannels_of_set {m : ChMask} {j : Nat} (h : m.getLsbD j = true) : j ∈ enabledChannels m :=
  mem_enabledChannels.mpr ⟨BitVec.lt_of_getLsbD h, h⟩

theorem enabledChannels_ascending (m : ChMask) : (enabledChannels m).Pairwise (· < ·) :=
  List.pairwise_lt_range.filter _

theorem popcount_pos_of_ne_zero {m : ChMask} (h : m ≠ 0#8) : 1 ≤ popcount m := by
  obtain ⟨j, hj⟩ : ∃ j, m.getLsbD j = true := by
    by_contra hn
    exact h (BitVec.eq_of_getLsbD_eq fun j _ => by simpa using fun hj => hn ⟨j, hj⟩)
  exact List.length_pos_of_mem (mem_enabledChannels_of_set hj)

/-- The head of any selection of the set bits is the least bit selected; as a three-bit index it is that bit. -/
theorem selected_head_least {m : ChMask} {p : Nat → Bool} {i : Nat} {rest : List Nat}
    (hsel : (enabledChannels m).filter p = i :: rest) :
    (BitVec.ofNat 3 i).toNat = i ∧ p i = true ∧ ∀ j, m.getLsbD j = true → p j = true → i ≤ j := by
  have hi : i ∈ enabledChannels m ∧ p i = true := List.mem_filter.mp (hsel ▸ List.mem_cons_self)
  refine ⟨Nat.mod_eq_of_lt (mem_enabledChannels.mp hi.1).1, hi.2, fun j hj hpj => ?_⟩
  have hasc : (i :: rest).Pairwise (· < ·) := hsel ▸ (enabledChannels_ascending m).filter p
  have hmem : j ∈ i :: rest := hsel ▸ List.mem_filter.mpr ⟨mem_enabledChannels_of_set hj, hpj⟩
  obtain rfl | hrest := List.mem_cons.mp hmem
  · exact le_rfl
  · exact (List.rel_of_pairwise_cons hasc hrest).le

/-- `lowest_set` is below or at every set bit. -/
theorem lowestSet_le_of_set {m : ChMask} {j : Nat} (hj : m.getLsbD j = true) : (lowestSet m).toNat ≤ j := by
  unfold lowestSet
  split
  · next hnil => exact absurd (mem_enabledChannels_of_set hj) (by simp [hnil])
  · next i rest hcons =>
    obtain ⟨hval, -, hleast⟩ := selected_head_least (p := fun _ => true) (by simpa using hcons)
    exact hval.trans_le (hleast j hj rfl)

/-- With a set bit above the given index, `next_enabled` lies above the index, at or below that bit. -/
theorem nextEnabled_of_set_above {m : ChMask} {i : BitVec 3} {j : Nat} (hij : i.toNat < j) (hj : m.getLsbD j = true) :
    i.toNat < (nextEnabled m i).toNat ∧ (nextEnabled m i).toNat ≤ j := by
  unfold nextEnabled
  split
  · next hnil => exact absurd (decide_eq_true hij) (List.filter_eq_nil_iff.mp hnil j (mem_enabledChannels_of_set hj))
  · next k rest hcons =>
    obtain ⟨hval, hik, hleast⟩ := selected_head_least hcons
    exact ⟨(of_decide_eq_true hik).trans_eq hval.symm, hval.trans_le (hleast j hj (decide_eq_true hij))⟩

/-- With no set bit above the given index, `next_enabled` wraps to the lowest set bit. -/
theorem nextEnabled_of_none_above {m : ChMask} {i : BitVec 3} (h : ∀ j, i.toNat < j → m.getLsbD j = false) :
    nextEnabled m i = lowestSet m := by
  have hnil : (enabledChannels m).filter (fun j => decide (i.toNat < j)) = [] :=
    List.filter_eq_nil_iff.mpr fun j hj hij => by
      simpa [h j (of_decide_eq_true hij)] using (mem_enabledChannels.mp hj).2
  rw [nextEnabled, hnil]

/-- Settles O36: the successor is set, and each direction is the least-candidate lemma of its case. -/
theorem nextEnabledIsCyclicSuccessor : Obligations.NextEnabledIsCyclicSuccessor := by
  intro m i hm
  refine ⟨nextEnabled_is_set i (popcount_pos_of_ne_zero hm), ?above, ?wrap⟩
  case above =>
    rintro ⟨k, hik, hk⟩
    refine ⟨(nextEnabled_of_set_above hik hk).1, fun j hij hlt => ?_⟩
    exact Bool.eq_false_iff.mpr fun hj => absurd (nextEnabled_of_set_above hij hj).2 (Nat.not_le.mpr hlt)
  case wrap =>
    intro hnone j hlt
    rw [nextEnabled_of_none_above hnone] at hlt
    exact Bool.eq_false_iff.mpr fun hj => absurd (lowestSet_le_of_set hj) (Nat.not_le.mpr hlt)

end Sys2Proof.Machine
end

section
/-! PROOF. What a step does to the block, said once: `commandBody` is what a command does when it is not dropped, each body has an
inversion lemma, and `StepEffect` lists what a step can do with the environment's own part left as a free `e`. -/

namespace Sys2Proof.Machine

/-! ## Commands -/

/-- What an accepted command does when the faulted state does not drop it. -/
def commandBody (i : Instr) (s : State) : State :=
  match i with
  | .enable chEn bps spp _ => s.enableBody (encode i) chEn bps spp
  | .disableAll =>
    if !s.faulted && s.outstanding then (s.faultEnter .seqBusy (encode .disableAll)).powerDown else s.powerDown
  | .trigger => s.triggerBody (encode i)
  | .triggerPacket => s.triggerPacketBody (encode i)
  | .read => s.readBody (encode i)
  | .readPacket => s.readPacketBody (encode i)
  | .tryRead => s.tryReadBody (encode i)

/-- DISABLE_ALL is executed in the faulted state too (R88). -/
theorem exec_disableAll (s : State) : exec .disableAll s = .next (commandBody .disableAll s) := rfl

/-- Every other command is dropped in the faulted state, on its own port (R72, R73). -/
theorem exec_of_ne_disableAll {i : Instr} (hi : i ≠ .disableAll) (s : State) :
    exec i s = .next (s.unlessFaulted (portOf i) (encode i) (commandBody i)) := by
  cases i with
  | disableAll => exact absurd rfl hi
  | _ => rfl

/-- What an accepted command can do: it is dropped, or its body runs. -/
theorem exec_cases {i : Instr} {s t : State} (h : exec i s = .next t) :
    (s.faulted = true ∧ t = s.dropCommand (portOf i) (encode i)) ∨
    ((s.faulted = false ∨ i = .disableAll) ∧ t = commandBody i s) := by
  by_cases hi : i = .disableAll
  · subst hi
    rw [exec_disableAll] at h
    cases h
    exact .inr ⟨.inr rfl, rfl⟩
  · rw [exec_of_ne_disableAll hi] at h
    cases h
    obtain ⟨hf, ht⟩ | ⟨hf, ht⟩ := unlessFaulted_cases s (portOf i) (encode i) (commandBody i)
    · exact .inl ⟨hf, ht⟩
    · exact .inr ⟨.inl hf, ht⟩

/-- A word decodes only on the port of its command (R70). -/
theorem portOf_of_decode {p : Port} {v : Word} {i : Instr} (h : decode p v = .ok i) : portOf i = p := by
  unfold decode at h
  split at h
  · cases h
  · next o _ =>
    split_ifs at h with hport
    cases h
    rw [not_not] at hport
    rw [← hport]
    cases o <;> rfl

/-- What ENABLE can do (R81): an invalid configuration, outstanding work, or the programming and calibration. -/
theorem enableBody_cases (s : State) (word : Word) (chEn : ChMask) (bps : BitVec 2) (spp : Nat) :
    (∃ c, validate chEn bps spp = some c ∧ s.enableBody word chEn bps spp = s.faultEnter c word) ∨
    (validate chEn bps spp = none ∧ s.outstanding = true ∧
      s.enableBody word chEn bps spp = s.faultEnter .seqBusy word) ∨
    (validate chEn bps spp = none ∧ s.outstanding = false ∧
      s.enableBody word chEn bps spp = (s.programConfig word chEn).calibrate) := by
  unfold State.enableBody
  split
  · next c hc => exact .inl ⟨c, hc, rfl⟩
  · next hv =>
    split
    · next ho => exact .inr (.inl ⟨hv, ho, rfl⟩)
    · next ho => exact .inr (.inr ⟨hv, Bool.eq_false_iff.mpr ho, rfl⟩)

/-- What a pulse changes (R91). -/
theorem pulse_eq (s : State) (kind : PulseKind) :
    s.pulse kind =
      { s with trig := false, pulseCount := s.pulseCount + 1#32, history := .pulse kind :: s.history } := rfl

/-- A sampling pulse below the ceiling: counted, and one conversion queued (R93). -/
def State.queuePulse (s : State) : State := { s with pend := s.pend + 1#3 }.pulse .sample

/-- Below the ceiling `SamplePulse` goes on from `queuePulse` (R93). -/
theorem queuePulse_eq (s : State) : { s.pulse .sample with pend := s.pend + 1#3 } = s.queuePulse := by
  simp only [State.queuePulse, pulse_eq]

/-- What TRIGGER can do (R94). -/
theorem triggerBody_cases (s : State) (word : Word) :
    (s.enabled = false ∧ s.triggerBody word = s.faultEnter .seqNotEnabled word) ∨
    (s.enabled = true ∧ 5 ≤ s.occ ∧ s.triggerBody word = (s.pulse .sample).faultEnter .overrun word) ∨
    (s.enabled = true ∧ s.occ < 5 ∧ s.triggerBody word = s.queuePulse) := by
  unfold State.triggerBody
  split
  · next hen =>
    obtain ⟨hocc, h⟩ | ⟨hocc, h⟩ := samplePulse_cases s word
    · exact .inr (.inl ⟨hen, hocc, by rw [h]; rfl⟩)
    · exact .inr (.inr ⟨hen, hocc, by rw [h, queuePulse_eq]; rfl⟩)
  · next hen => exact .inl ⟨Bool.eq_false_iff.mpr hen, rfl⟩

/-- What a CTRL_SEQ step can do (R97): the overrun, the last pulse, or a pulse with more to come. -/
theorem ctrlSeqStep_cases (s : State) :
    (5 ≤ s.occ ∧ s.ctrlSeqStep = (s.pulse .sample).faultEnter .overrun s.ctrlWord) ∨
    (s.occ < 5 ∧ s.tpRem - 1#3 = 0#3 ∧ s.ctrlSeqStep = (s.idlePort .ctrl).queuePulse) ∨
    (s.occ < 5 ∧ s.tpRem - 1#3 ≠ 0#3 ∧ s.ctrlSeqStep = ({ s with tpRem := s.tpRem - 1#3 }).queuePulse) := by
  unfold State.ctrlSeqStep
  obtain ⟨hocc, h⟩ | ⟨hocc, h⟩ := samplePulse_cases { s with tpRem := s.tpRem - 1#3 } s.ctrlWord
  · rw [h]
    exact .inl ⟨hocc, rfl⟩
  · rw [h]
    by_cases hlast : s.tpRem - 1#3 = 0#3
    · refine .inr (.inl ⟨hocc, hlast, ?_⟩)
      simp only [hlast, State.queuePulse, pulse_eq]
      rfl
    · rw [queuePulse_eq]
      exact .inr (.inr ⟨hocc, hlast, if_neg hlast⟩)

/-- What READ_PACKET can do (R110). -/
theorem readPacketBody_cases (s : State) (word : Word) :
    (s.enabled = false ∧ s.readPacketBody word = s.faultEnter .seqNotEnabled word) ∨
    (s.enabled = true ∧ s.rdPos ≠ 0#3 ∧ s.readPacketBody word = s.faultEnter .protoMisaligned word) ∨
    (s.enabled = true ∧ s.rdPos = 0#3 ∧
      s.readPacketBody word = { s with rdOp := .readPacket, rdWord := word, rdIdx := 0#3, rdBusy := true }) := by
  unfold State.readPacketBody
  split
  · next hen =>
    split
    · next hpos => exact .inr (.inl ⟨hen, hpos, rfl⟩)
    · next hpos => exact .inr (.inr ⟨hen, not_not.mp hpos, rfl⟩)
  · next hen => exact .inl ⟨Bool.eq_false_iff.mpr hen, rfl⟩

/-- What TRY_READ can do (R113): it absorbs the tokens at the head, then takes a data word if one follows. -/
theorem tryReadBody_cases (s : State) (word : Word) :
    (s.enabled = false ∧ s.tryReadBody word = s.faultEnter .seqNotEnabled word) ∨
    (∃ w rest, s.enabled = true ∧ (s.absorbTokens s.fifo).fifo = .data w :: rest ∧
      s.tryReadBody word = (s.absorbTokens s.fifo).takeWord w rest) ∨
    (s.enabled = true ∧ (∀ w rest, (s.absorbTokens s.fifo).fifo ≠ .data w :: rest) ∧
      s.tryReadBody word = { s.absorbTokens s.fifo with rdValid := false }) := by
  unfold State.tryReadBody
  split
  · next hen =>
    dsimp only
    split
    · next w rest hf => exact .inr (.inl ⟨w, rest, hen, hf, rfl⟩)
    · next c rest hf => exact .inr (.inr ⟨hen, by simp [hf], rfl⟩)
    · next hf => exact .inr (.inr ⟨hen, by simp [hf], rfl⟩)
  · next hen => exact .inl ⟨Bool.eq_false_iff.mpr hen, rfl⟩

/-- The loop of TRY_READ changes only the FIFO, RD_POS and the history (R113). -/
theorem absorbTokens_frame (items : List WireItem) (s : State) :
    s.absorbTokens items =
      { s with
        fifo := (s.absorbTokens items).fifo, rdPos := (s.absorbTokens items).rdPos
        history := (s.absorbTokens items).history } := by
  induction items generalizing s with
  | nil => rfl
  | cons x rest ih =>
    cases x with
    | data _ => rfl
    | ctrl c =>
      rw [State.absorbTokens]
      exact ih _

/-! ## Agents -/

/-- What a CONV step does (R101): it pushes one word, and the END token behind the S-th. -/
theorem convStep_cases (s : State) (raw : Word) :
    let word := WireItem.data (justify s.params.adcRes s.width raw)
    (s.pktcnt.toNat + 1 = s.spp ∧ s.convStep raw =
      ({ s with pend := s.pend - 1#3, chptr := nextEnabled s.chEn s.chptr, pktcnt := 0#3 }.pushItem word).pushItem
        (.ctrl s.params.endCode)) ∨
    (s.pktcnt.toNat + 1 ≠ s.spp ∧ s.convStep raw =
      { s with
        pend := s.pend - 1#3, chptr := nextEnabled s.chEn s.chptr, pktcnt := s.pktcnt + 1#3 }.pushItem word) := by
  by_cases hlast : s.pktcnt.toNat + 1 = s.spp
  · exact .inl ⟨hlast, if_pos hlast⟩
  · exact .inr ⟨hlast, if_neg hlast⟩

/-- What a READER step can do: hold, or one of the ways of READ (R108) and READ_PACKET (R111) with the item at the head. -/
theorem readerStep_cases (s : State) :
    ((s.rdOp = .none ∨ s.fifo = []) ∧ s.readerStep = s) ∨
    (∃ c rest, s.rdOp = .read ∧ s.fifo = .ctrl c :: rest ∧
      s.readerStep = { s.popTo (.ctrl c) rest with rdPos := 0#3 }) ∨
    (∃ w rest, s.rdOp = .read ∧ s.fifo = .data w :: rest ∧
      s.readerStep = { s.takeWord w rest with rdBusy := false, rdOp := .none }) ∨
    (∃ w rest, s.rdOp = .readPacket ∧ s.fifo = .data w :: rest ∧
      s.readerStep =
        if s.rdIdx.toNat < s.spp then s.takePacketWord w rest else s.faultEnter .protoDataAtTrailer s.rdWord) ∨
    (∃ c rest, s.rdOp = .readPacket ∧ s.fifo = .ctrl c :: rest ∧
      s.readerStep =
        if s.rdIdx.toNat < s.spp then s.faultEnter .protoCtrlInData s.rdWord else s.takeTrailer c rest) := by
  unfold State.readerStep
  cases hop : s.rdOp with
  | none => exact .inl ⟨.inl rfl, rfl⟩
  | read =>
    dsimp only
    unfold State.readStep
    cases hf : s.fifo with
    | nil => exact .inl ⟨.inr rfl, rfl⟩
    | cons x rest =>
      cases x with
      | ctrl c => exact .inr (.inl ⟨c, rest, rfl, rfl, rfl⟩)
      | data w => exact .inr (.inr (.inl ⟨w, rest, rfl, rfl, rfl⟩))
  | readPacket =>
    dsimp only
    unfold State.readPacketStep
    cases hf : s.fifo with
    | nil => exact .inl ⟨.inr rfl, rfl⟩
    | cons x rest =>
      cases x with
      | data w => exact .inr (.inr (.inr (.inl ⟨w, rest, rfl, rfl, rfl⟩)))
      | ctrl c => exact .inr (.inr (.inr (.inr ⟨c, rest, rfl, rfl, rfl⟩)))

/-! ## Steps -/

/-- Host agent `g` has the turn, and its next access presents the word `v` to the free port `p` (R52, R53). -/
structure Presents (s : State) (g : HostAgent) (p : Port) (v : Word) (rest : List Access) : Prop where
  turn : s.nextTurn = .agent (.host g)
  todo : (s.host g).todo = s.commandWrite p v :: rest
  free : s.portBusy p = false

/-- What a step does to the block. The environment after the turn is `e`; in the last three cases a word is accepted. -/
inductive StepEffect (s : State) : State → Prop where
  | reset (e : Env) (hturn : s.nextTurn = .tileReset) : StepEffect s ({ s with env := e }).tileReset
  | hold (e : Env) : StepEffect s { s with env := e }
  | ctrlSeq (e : Env) (hturn : s.nextTurn = .agent .ctrlSeq) (hen : s.ctrlSeqEnabled = true) :
      StepEffect s ({ s with env := e }).ctrlSeqStep
  | conv (e : Env) (raw : Word) (hturn : s.nextTurn = .agent .conv) (hen : s.convEnabled = true) :
      StepEffect s (({ s with env := e }).convStep raw)
  | reader (e : Env) (hturn : s.nextTurn = .agent .reader) (hen : s.readerEnabled = true) :
      StepEffect s ({ s with env := e }).readerStep
  | drop (e : Env) {g : HostAgent} {p : Port} {v : Word} {rest : List Access} (hword : Presents s g p v rest)
      (w : Word) (hf : s.faulted = true) : StepEffect s ((({ s with env := e }).record (.accept p v)).dropCommand p w)
  | malformed (e : Env) {g : HostAgent} {p : Port} {v : Word} {rest : List Access} (hword : Presents s g p v rest)
      {err : DecodeError} (hdec : decode p v = .error err) (hf : s.faulted = false) :
      StepEffect s ((({ s with env := e }).record (.accept p v)).faultEnter (causeOfError err) v)
  | command (e : Env) {g : HostAgent} {p : Port} {v : Word} {rest : List Access} (hword : Presents s g p v rest)
      {i : Instr} (hdec : decode p v = .ok i) (hf : s.faulted = false ∨ i = .disableAll) :
      StepEffect s (commandBody i (({ s with env := e }).record (.accept p v)))

/-- Which ports are busy does not depend on the environment (R24). -/
@[simp] theorem portBusy_withEnv (s : State) (e : Env) (p : Port) : ({ s with env := e }).portBusy p = s.portBusy p := by
  cases p <;> rfl

/-- A word accepted by a free port is dropped, malformed or a command (R72, R73). -/
theorem stepEffect_of_acceptWord {s s' : State} {g : HostAgent} {p : Port} {v : Word} {rest : List Access} (e : Env)
    (hword : Presents s g p v rest) (h : acceptWord p v { s with env := e } = .next s') : StepEffect s s' := by
  obtain ⟨i, hdec, hexec⟩ | ⟨err, hdec, rfl⟩ := acceptWord_cases h
  · obtain ⟨hf, rfl⟩ | ⟨hf, rfl⟩ := exec_cases hexec
    · rw [portOf_of_decode hdec]
      exact .drop e hword _ hf
    · exact .command e hword hdec hf
  · obtain ⟨hf, ht⟩ | ⟨hf, ht⟩ := rejectWord_cases (({ s with env := e }).record (.accept p v)) p v err
    · exact ht ▸ .drop e hword v hf
    · exact ht ▸ .malformed e hword hdec hf

/-- A step that answers a next state is one of `StepEffect`. -/
theorem stepEffect_of_step {s s' : State} (h : step s = .next s') : StepEffect s s' := by
  have hturnEnv := consumeTurn_eq s
  generalize s.consumeTurn.env = e at hturnEnv
  rw [step_eq, hturnEnv] at h
  obtain ⟨ht, rfl⟩ | ⟨a, -, -, rfl⟩ | ⟨ht, hen, rfl⟩ | ⟨ht, hen, rfl⟩ | ⟨ht, hen, rfl⟩ | ⟨g, ht, hen, hhost⟩ :=
    takeTurn_cases h
  · exact .reset e ht
  · exact .hold e
  · exact .ctrlSeq e ht hen
  · rw [consumeDraw_eq]
    exact .conv _ _ ht hen
  · exact .reader e ht hen
  · have hside : (({ s with env := e }).host g) = s.host g := by rw [← hturnEnv, consumeTurn_host]
    obtain ⟨-, rfl⟩ | ⟨a, rest, x, -, rfl, -⟩ | ⟨p, v, rest, htodo, hacc⟩ := hostStep_cases hhost
    · exact .hold e
    · rw [setHost_eq]
      exact .hold _
    · have hfree : s.portBusy p = false := by
        simpa using (hostEnabled_commandWrite htodo).symm.trans hen
      rw [setHost_eq] at hacc
      rw [hside] at htodo
      exact stepEffect_of_acceptWord _ ⟨ht, htodo, hfree⟩ hacc

end Sys2Proof.Machine
end

section
/-! PROOF. The stream on the wire (10_state.md R36): what `streamEnd` says item by item, and with it that tokens frame the packets
(R40) and how long the FIFO can get (R35). -/

namespace Sys2Proof.Machine

@[simp] theorem streamEnd_nil (spp c : Nat) : streamEnd spp c [] = some c := rfl

@[simp] theorem streamEnd_data {spp c k : Nat} {w : Word} {rest : List WireItem} :
    streamEnd spp c (.data w :: rest) = some k ↔ c < spp ∧ streamEnd spp (c + 1) rest = some k := by
  rw [streamEnd, Option.ite_none_right_eq_some]

@[simp] theorem streamEnd_ctrl {spp c k : Nat} {code : Byte} {rest : List WireItem} :
    streamEnd spp c (.ctrl code :: rest) = some k ↔ c = spp ∧ streamEnd spp 0 rest = some k := by
  rw [streamEnd, Option.ite_none_right_eq_some]

/-- A stream can be cut anywhere: its rest goes on where its beginning ends. -/
theorem streamEnd_append {spp k : Nat} (xs ys : List WireItem) (c : Nat) :
    streamEnd spp c (xs ++ ys) = some k ↔ ∃ d, streamEnd spp c xs = some d ∧ streamEnd spp d ys = some k := by
  induction xs generalizing c with
  | nil => simp
  | cons x xs ih => cases x <;> simp [ih, and_assoc]

/-- Every token follows a data word, except that one token can come first when it is due at once. -/
theorem length_le_of_streamEnd {spp : Nat} (hspp : 1 ≤ spp) {k : Nat} (xs : List WireItem) (c : Nat)
    (h : streamEnd spp c xs = some k) : xs.length ≤ 2 * dataCount xs + if c = spp then 1 else 0 := by
  induction xs generalizing c with
  | nil => simp
  | cons x xs ih =>
    cases x with
    | data w =>
      have hrest := ih _ (streamEnd_data.mp h).2
      rw [dataCount_data, List.length_cons]
      split_ifs at hrest ⊢ <;> omega
    | ctrl code =>
      obtain ⟨hdue, htail⟩ := streamEnd_ctrl.mp h
      have hrest := ih _ htail
      rw [if_neg (by omega : ¬ 0 = spp)] at hrest
      rw [dataCount_ctrl, List.length_cons, if_pos hdue]
      omega

/-- No stream has two adjacent tokens: after a token a data word is due. -/
theorem streamEnd_ne_some_of_adjacent_tokens {spp : Nat} (hspp : 1 ≤ spp) (pre rest : List WireItem) (c : Nat) (a b : Byte)
    (k : Nat) : streamEnd spp c (pre ++ .ctrl a :: .ctrl b :: rest) ≠ some k := by
  intro h
  obtain ⟨d, -, htokens⟩ := (streamEnd_append pre _ c).mp h
  obtain ⟨-, h0, -⟩ : d = spp ∧ 0 = spp ∧ streamEnd spp 0 rest = some k := by simpa using htokens
  omega

/-! ## The configuration in force -/

/-- R29: while ENABLED there are 1 to 5 samples in a packet. -/
theorem State.WellBehaved.spp_bounds {s : State} (h : s.WellBehaved) (hen : s.enabled = true) : 1 ≤ s.spp ∧ s.spp ≤ 5 := by
  obtain ⟨-, hpos, hle, -⟩ := h.config.1 hen
  exact ⟨hpos, hle.trans (min_le_left _ _)⟩

/-- R29: while ENABLED some channel is enabled. -/
theorem State.WellBehaved.popcount_pos {s : State} (h : s.WellBehaved) (hen : s.enabled = true) : 1 ≤ popcount s.chEn := by
  obtain ⟨-, hpos, hle, -⟩ := h.config.1 hen
  exact hpos.trans (hle.trans (min_le_right _ _))

/-! ## Tokens and the bound -/

/-- Settles O53: each clause is what `streamEnd` says of the item in question. -/
theorem tokensFrameThePackets : Obligations.TokensFrameThePackets := by
  intro s h hen
  obtain ⟨hspp, -⟩ := h.spp_bounds hen
  obtain ⟨hstream, hcount⟩ := h.stream
  refine ⟨fun pre c d rest hf => ?adjacent, fun hpos c rest hf => ?atZero, fun hpos => ?atEnd⟩
  case adjacent =>
    exact streamEnd_ne_some_of_adjacent_tokens hspp pre rest _ c d _ (hf ▸ hstream)
  case atZero =>
    have hdue := (streamEnd_ctrl.mp (hf ▸ hstream)).1
    rw [hpos, BitVec.toNat_ofNat] at hdue
    omega
  case atEnd =>
    cases hf : s.fifo with
    | nil =>
      have hend : s.rdPos.toNat = s.pktcnt.toNat := by simpa [hf] using hstream
      have := hcount hen
      omega
    | cons x rest =>
      cases x with
      | ctrl c => exact ⟨c, rest, rfl⟩
      | data w =>
        have := (streamEnd_data.mp (hf ▸ hstream)).1
        omega

/-- Settles O52: the occupancy bounds the Data items, and the stream bounds the tokens by them. -/
theorem fifoHoldsAtMostEleven : Obligations.FifoHoldsAtMostEleven := by
  intro s h
  have hdata : dataCount s.fifo ≤ 5 := (Nat.le_add_right _ _).trans h.occupancy
  refine ⟨?_, hdata⟩
  cases hen : s.enabled with
  | false =>
    obtain ⟨-, -, -, hfifo, -⟩ := h.cleared hen
    simp [hfifo]
  | true =>
    have hlen := length_le_of_streamEnd (h.spp_bounds hen).1 s.fifo _ h.stream.1
    split_ifs at hlen <;> omega

end Sys2Proof.Machine
end

section
/-! PROOF. The invariant of reachable states (10_state.md R29 to R46) is kept by every operation of the model, hence by every step.
Each operation has its own preservation lemma; the lemma of a larger operation is a composition of those. -/

namespace Sys2Proof.Machine

/-! ## Values -/

theorem toNat_add_one_of_lt {x : BitVec 3} {n : Nat} (hx : x.toNat < n) (hn : n ≤ 7) : (x + 1#3).toNat = x.toNat + 1 := by
  bv_omega

theorem toNat_sub_one_of_ne_zero {x : BitVec 3} (hx : x ≠ 0#3) : (x - 1#3).toNat = x.toNat - 1 := by
  bv_omega

/-- A legal FAULT with no group bit is 0 (R45). -/
theorem eq_zero_of_legalFault_unfaulted : ∀ f ∈ legalFaultWords, f.extractLsb' 0 5 = 0#5 → f = 0#32 := by
  simp [legalFaultWords, firstFaultWords]

/-- DROP keeps a legal FAULT of a faulted block legal (R45, R124). -/
theorem drop_mem_legalFaultWords : ∀ f ∈ legalFaultWords, f.extractLsb' 0 5 ≠ 0#5 → f ||| dropBit ∈ legalFaultWords := by
  simp [legalFaultWords, firstFaultWords, dropBit]

/-- The causes of malformed words give legal values of FAULT (R119). -/
theorem causeOfError_legal (e : DecodeError) : faultWord (causeOfError e) 0#32 ∈ legalFaultWords := by
  cases e <;> decide

/-- The cleared elements of R87 bind only while the block is not ENABLED. -/
theorem clearedWhileDisabled_of_enabled {s : State} (hen : s.enabled = true) : s.clearedWhileDisabled :=
  fun hd => absurd (hen.symm.trans hd) nofun

namespace State.WellBehaved

variable {s : State}

/-! ## What the invariant says in the cases the steps ask about -/

theorem fault_eq_zero (h : s.WellBehaved) (hf : s.faulted = false) : s.fault = 0#32 :=
  eq_zero_of_legalFault_unfaulted _ h.fault.1 (not_not.mp (of_decide_eq_false hf))

theorem tpRem_eq_zero (h : s.WellBehaved) (hfree : s.ctrlBusy = false) : s.tpRem = 0#3 := by
  by_contra hrem
  exact absurd (hfree.symm.trans (h.ctrlPort.1.mpr hrem)) nofun

theorem rdOp_eq_none (h : s.WellBehaved) (hfree : s.rdBusy = false) : s.rdOp = .none := by
  by_contra hop
  exact absurd (hfree.symm.trans (h.rdPort.1.mpr hop)) nofun

theorem enabled_of_ctrlBusy (h : s.WellBehaved) (hbusy : s.ctrlBusy = true) : s.enabled = true := by
  by_contra hen
  obtain ⟨-, -, -, -, -, -, hfree, -⟩ := h.cleared (Bool.eq_false_iff.mpr hen)
  exact absurd (hfree.symm.trans hbusy) nofun

theorem enabled_of_fifo (h : s.WellBehaved) {x : WireItem} {rest : List WireItem} (hf : s.fifo = x :: rest) :
    s.enabled = true := by
  by_contra hen
  obtain ⟨-, -, -, hempty, -⟩ := h.cleared (Bool.eq_false_iff.mpr hen)
  exact absurd (hempty.symm.trans hf) nofun

/-! ## The environment, the registers and the history -/

theorem withEnv (h : s.WellBehaved) (e : Env) : ({ s with env := e }).WellBehaved := { h with }

/-- An event that is neither a pulse nor a fault can be recorded. -/
theorem record (h : s.WellBehaved) {e : Event} (hp : isPulseEvent e = false) (hf : isFaultEvent e = false) :
    (s.record e).WellBehaved := by
  obtain ⟨hpulses, htrig, hfaults⟩ := h.history
  have hhist : (s.record e).historyAgrees := by
    refine ⟨hpulses.trans ?_, htrig, Eq.trans ?_ hfaults⟩ <;> simp [hp, hf]
  exact { h with history := hhist }

/-- A pulse is counted and recorded (R91). -/
theorem pulse (h : s.WellBehaved) (kind : PulseKind) : (s.pulse kind).WellBehaved := by
  obtain ⟨hpulses, -, hfaults⟩ := h.history
  rw [pulse_eq]
  refine { h with history := ⟨?_, rfl, Eq.trans ?_ hfaults⟩ }
  · simp [isPulseEvent, List.countP_cons, hpulses, BitVec.ofNat_add]
  · simp [isFaultEvent]

theorem calPulses (h : s.WellBehaved) (n : Nat) : (s.calPulses n).WellBehaved := by
  induction n generalizing s with
  | zero => exact h
  | succ n ih => exact ih (h.pulse .cal)

/-! ## Faults, drops, resets -/

/-- R122: fault entry of an unfaulted block, for every cause that R112 does not exclude. -/
theorem faultEnter (h : s.WellBehaved) (hf : s.faulted = false) {c : Cause} (hc : faultWord c 0#32 ∈ legalFaultWords)
    (w : Word) : (s.faultEnter c w).WellBehaved := by
  obtain ⟨hpulses, htrig, hfaults⟩ := h.history
  have hfault : (s.faultEnter c w).faultLegal :=
    ⟨by rwa [faultEnter_fault, h.fault_eq_zero hf], fun hn => absurd ((faultEnter_faulted s c w).symm.trans hn) nofun,
      fun _ => ⟨rfl, rfl⟩⟩
  have hhist : (s.faultEnter c w).historyAgrees := by
    refine ⟨hpulses.trans ?_, htrig, ?_⟩
    · simp [isPulseEvent]
    · simp [isFaultEvent, List.countP_cons, hfaults, hf]
  have hcleared : (s.faultEnter c w).clearedWhileDisabled := fun hd => by
    obtain ⟨hch, hpkt, hpend, hfifo, hpos, -, -, hcw, hrw⟩ := h.cleared hd
    exact ⟨hch, hpkt, hpend, hfifo, hpos, rfl, rfl, hcw, hrw⟩
  exact { h with
    cleared := hcleared, fault := hfault, history := hhist
    ctrlPort := ⟨by simp, by simp, Nat.zero_le _, nofun⟩
    rdPort := ⟨by simp, nofun, nofun, fun _ => rfl⟩ }

/-- R124: a command dropped by a faulted block. -/
theorem dropCommand (h : s.WellBehaved) (hf : s.faulted = true) (p : Port) (w : Word) : (s.dropCommand p w).WellBehaved := by
  obtain ⟨hlegal, hcmd, haborted⟩ := h.fault
  obtain ⟨hpulses, htrig, hfaults⟩ := h.history
  have hkeep := dropCommand_faulted s p w
  have hfault : (s.dropCommand p w).faultLegal :=
    ⟨drop_mem_legalFaultWords _ hlegal (of_decide_eq_true hf), fun hn => hcmd (hkeep.symm.trans hn),
      fun _ => haborted hf⟩
  have hhist : (s.dropCommand p w).historyAgrees := by
    refine ⟨hpulses.trans ?_, htrig, ?_⟩
    · simp [isPulseEvent]
    · simp [isFaultEvent, hfaults, hkeep]
  exact { h with fault := hfault, history := hhist }

/-- R87: the power-down, with a control port free to accept it. -/
theorem powerDown (h : s.WellBehaved) (hfree : s.ctrlBusy = false) : s.powerDown.WellBehaved := by
  obtain ⟨hlegal, hcmd, -⟩ := h.fault
  obtain ⟨hbusy, hop, -, -⟩ := h.ctrlPort
  have hrem : s.powerDown.tpRem.toNat ≤ s.powerDown.spp := by
    rw [powerDown_tpRem, h.tpRem_eq_zero hfree]
    exact Nat.zero_le _
  exact { h with
    config := ⟨nofun, fun _ => rfl⟩
    cleared := fun _ => ⟨rfl, rfl, rfl, rfl, rfl, rfl, hfree, rfl, rfl⟩
    chptr := nofun, stream := ⟨rfl, nofun⟩, items := nofun, occupancy := Nat.zero_le _
    ctrlPort := ⟨hbusy, hop, hrem, fun hb => absurd (hfree.symm.trans hb) nofun⟩
    rdPort := ⟨by simp, nofun, nofun, fun _ => rfl⟩
    fault := ⟨hlegal, hcmd, fun _ => ⟨hfree, rfl⟩⟩ }

end State.WellBehaved

/-- Settles O49: every element is at a fixed value. -/
theorem resetIsWellBehaved : Obligations.ResetIsWellBehaved := by
  unfold Obligations.ResetIsWellBehaved
  exact
    { params := by decide, config := by decide, cleared := by decide, chptr := by decide, stream := by decide
      items := by decide, occupancy := by decide, ctrlPort := by decide, rdPort := by decide, fault := by decide
      history := by decide }

namespace State.WellBehaved

variable {s : State}

/-- R135: the tile reset, which keeps the parameters. -/
theorem tileReset (h : s.WellBehaved) : s.tileReset.WellBehaved :=
  { resetIsWellBehaved with params := h.params, items := nofun }

/-! ## ENABLE -/

/-- R81: a validated ENABLE at a free control port with no work outstanding. -/
theorem programAndCalibrate (h : s.WellBehaved) (hfree : s.ctrlBusy = false) (hidle : s.outstanding = false)
    {ch : ChMask} {bps : BitVec 2} {spp : Nat} {cal : Bool} (hv : validate ch bps spp = none) :
    (s.programConfig (encode (.enable ch bps spp cal)) ch).calibrate.WellBehaved := by
  obtain ⟨hpos, hle, hbps⟩ := validate_eq_none hv
  obtain ⟨-, -, hrdfree⟩ := outstanding_eq_false.mp hidle
  obtain ⟨hbusy, hop, -, hword⟩ := h.ctrlPort
  obtain ⟨hrdBusy, -, hread, hidx⟩ := h.rdPort
  set t := s.programConfig (encode (.enable ch bps spp cal)) ch with ht
  have hmask : t.chEn = ch := chEnField_latched ch bps spp cal
  have hspp : t.spp = spp := sppField_latched ch bps spp cal ((hle.trans (min_le_left _ _)).trans_lt (by decide))
  have hcode : t.bps = bps := bpsField_latched ch bps spp cal
  have hconfig : t.configLegal :=
    ⟨fun _ => ⟨hcode ▸ hbps, hspp ▸ hpos, by rwa [hspp, hmask], latchedConfig_masked _⟩, nofun⟩
  have hchptr : t.chptrOnEnabledChannel := fun _ => by
    rw [hmask]
    exact lowestSet_is_set (hpos.trans (hle.trans (min_le_right _ _)))
  have hrem : t.tpRem.toNat ≤ t.spp := by
    rw [ht, programConfig_tpRem, h.tpRem_eq_zero hfree]
    exact Nat.zero_le _
  have hprogrammed : t.WellBehaved := { h with
    config := hconfig, cleared := clearedWhileDisabled_of_enabled rfl, chptr := hchptr
    stream := ⟨rfl, fun _ => hspp ▸ hpos⟩, items := nofun, occupancy := Nat.zero_le _
    ctrlPort := ⟨hbusy, hop, hrem, hword⟩
    rdPort := ⟨hrdBusy, fun hrd => absurd ((h.rdOp_eq_none hrdfree).symm.trans hrd) nofun, hread, hidx⟩ }
  exact hprogrammed.calPulses _

/-- ENABLE at a free control port (R81). -/
theorem enableBody (h : s.WellBehaved) (hf : s.faulted = false) (hfree : s.ctrlBusy = false) (ch : ChMask) (bps : BitVec 2)
    (spp : Nat) (cal : Bool) : (s.enableBody (encode (.enable ch bps spp cal)) ch bps spp).WellBehaved := by
  obtain ⟨c, hc, ht⟩ | ⟨-, -, ht⟩ | ⟨hv, hidle, ht⟩ := enableBody_cases s (encode (.enable ch bps spp cal)) ch bps spp <;>
    rw [ht]
  · refine h.faultEnter hf ?_ _
    obtain rfl | rfl := validate_cause hc <;> decide
  · exact h.faultEnter hf (by decide) _
  · exact h.programAndCalibrate hfree hidle hv

/-- DISABLE_ALL at a free control port (R87, R88). -/
theorem disableAll (h : s.WellBehaved) (hfree : s.ctrlBusy = false) : (commandBody .disableAll s).WellBehaved := by
  dsimp only [commandBody]
  split
  · next hwork =>
    have hf : s.faulted = false := by
      rw [Bool.and_eq_true, Bool.not_eq_true'] at hwork
      exact hwork.1
    exact (h.faultEnter hf (by decide) _).powerDown rfl
  · exact h.powerDown hfree

/-! ## Triggers -/

/-- R93: a sampling pulse below the ceiling queues one conversion. -/
theorem queuePulse (h : s.WellBehaved) (hen : s.enabled = true) (hocc : s.occ < 5) : s.queuePulse.WellBehaved := by
  have hpend : (s.pend + 1#3).toNat = s.pend.toNat + 1 :=
    toNat_add_one_of_lt (Nat.lt_of_le_of_lt (Nat.le_add_left _ _) hocc) (by decide)
  have hbound : dataCount s.fifo + (s.pend + 1#3).toNat ≤ 5 := by
    rw [hpend]
    exact hocc
  have hqueued : ({ s with pend := s.pend + 1#3 }).WellBehaved :=
    { h with cleared := clearedWhileDisabled_of_enabled hen, occupancy := hbound }
  exact hqueued.pulse .sample

/-- R93: the overrun is a pulse, then the fault. -/
theorem overrun (h : s.WellBehaved) (hf : s.faulted = false) (w : Word) :
    ((s.pulse .sample).faultEnter .overrun w).WellBehaved :=
  (h.pulse .sample).faultEnter hf (by decide) w

/-- TRIGGER (R94). -/
theorem triggerBody (h : s.WellBehaved) (hf : s.faulted = false) (w : Word) : (s.triggerBody w).WellBehaved := by
  obtain ⟨-, ht⟩ | ⟨-, -, ht⟩ | ⟨hen, hocc, ht⟩ := triggerBody_cases s w <;> rw [ht]
  · exact h.faultEnter hf (by decide) w
  · exact h.overrun hf w
  · exact h.queuePulse hen hocc

/-- TRIGGER_PACKET (R96): TP_REM takes CONFIG.SPP, which is not 0. -/
theorem triggerPacketBody (h : s.WellBehaved) (hf : s.faulted = false) :
    (s.triggerPacketBody (encode .triggerPacket)).WellBehaved := by
  unfold State.triggerPacketBody
  split
  · next hen =>
    obtain ⟨hpos, hle⟩ := h.spp_bounds hen
    have hrem : (BitVec.ofNat 3 s.spp).toNat = s.spp := Nat.mod_eq_of_lt (by omega)
    have hne : BitVec.ofNat 3 s.spp ≠ 0#3 := fun h0 => by
      rw [h0, BitVec.toNat_ofNat] at hrem
      omega
    obtain ⟨hlegal, hcmd, -⟩ := h.fault
    exact { h with
      cleared := clearedWhileDisabled_of_enabled hen
      ctrlPort := ⟨⟨fun _ => hne, fun _ => rfl⟩, ⟨fun _ => rfl, fun _ => rfl⟩, hrem.le, fun _ => rfl⟩
      fault := ⟨hlegal, hcmd, fun ht => absurd (hf.symm.trans ht) nofun⟩ }
  · exact h.faultEnter hf (by decide) _

/-- The control port can be freed at any time (R37). -/
theorem idleCtrlPort (h : s.WellBehaved) : (s.idlePort .ctrl).WellBehaved := by
  obtain ⟨hlegal, hcmd, haborted⟩ := h.fault
  have hcleared : (s.idlePort .ctrl).clearedWhileDisabled := fun hd => by
    obtain ⟨hch, hpkt, hpend, hfifo, hpos, hrd, -, hcw, hrw⟩ := h.cleared hd
    exact ⟨hch, hpkt, hpend, hfifo, hpos, hrd, rfl, hcw, hrw⟩
  exact { h with
    cleared := hcleared
    ctrlPort := ⟨by simp [State.idlePort], by simp [State.idlePort], Nat.zero_le _, nofun⟩
    fault := ⟨hlegal, hcmd, fun hf => ⟨rfl, (haborted hf).2⟩⟩ }

/-- The CTRL_SEQ step (R97). -/
theorem ctrlSeqStep (h : s.WellBehaved) (hstep : s.ctrlSeqEnabled = true) : s.ctrlSeqStep.WellBehaved := by
  obtain ⟨hbusy, hf⟩ : s.ctrlBusy = true ∧ s.faulted = false := by simpa [State.ctrlSeqEnabled] using hstep
  have hen := h.enabled_of_ctrlBusy hbusy
  obtain ⟨-, ht⟩ | ⟨hocc, -, ht⟩ | ⟨hocc, hmore, ht⟩ := ctrlSeqStep_cases s <;> rw [ht]
  · exact h.overrun hf _
  · exact h.idleCtrlPort.queuePulse hen hocc
  · obtain ⟨hrem, hop, hle, hword⟩ := h.ctrlPort
    have hdec : (s.tpRem - 1#3).toNat ≤ s.spp := by
      rw [toNat_sub_one_of_ne_zero (hrem.mp hbusy)]
      omega
    have hcount : ({ s with tpRem := s.tpRem - 1#3 }).WellBehaved :=
      { h with ctrlPort := ⟨⟨fun _ => hmore, fun _ => hbusy⟩, hop, hdec, hword⟩ }
    exact hcount.queuePulse hen hocc

/-! ## Conversions -/

/-- What a conversion may push (R101): one word, perhaps with a token, that continues the stream up to the count `c`. -/
theorem convert (h : s.WellBehaved) (hen : s.enabled = true) (hpend : s.pend ≠ 0#3) {items : List WireItem} {c : BitVec 3}
    (hstream : streamEnd s.spp s.rdPos.toNat (s.fifo ++ items) = some c.toNat) (hc : c.toNat < s.spp)
    (hlegal : ∀ x ∈ items, itemLegal s.width s.params.endCode x = true) (hdata : dataCount items = 1) :
    ({ s with
      pend := s.pend - 1#3, chptr := nextEnabled s.chEn s.chptr, pktcnt := c, fifo := s.fifo ++ items }).WellBehaved := by
  have hocc : dataCount (s.fifo ++ items) + (s.pend - 1#3).toNat ≤ 5 := by
    have hold : dataCount s.fifo + s.pend.toNat ≤ 5 := h.occupancy
    have hpos : s.pend.toNat ≠ 0 := fun h0 => hpend (BitVec.eq_of_toNat_eq h0)
    rw [dataCount_append, hdata, toNat_sub_one_of_ne_zero hpend]
    omega
  exact { h with
    cleared := clearedWhileDisabled_of_enabled hen
    chptr := fun _ => nextEnabled_is_set _ (h.popcount_pos hen)
    stream := ⟨hstream, fun _ => hc⟩
    items := List.forall_mem_append.mpr ⟨h.items, hlegal⟩
    occupancy := hocc }

/-- The CONV step (R101): the word is due because PKTCNT is below S, and the token when the word was the S-th. -/
theorem convStep (h : s.WellBehaved) (hstep : s.convEnabled = true) (raw : Word) : (s.convStep raw).WellBehaved := by
  obtain ⟨⟨hen, -⟩, hpend⟩ : (s.enabled = true ∧ s.faulted = false) ∧ s.pend ≠ 0#3 := by
    simpa [State.convEnabled] using hstep
  obtain ⟨hpos, hle⟩ := h.spp_bounds hen
  obtain ⟨hstream, hcount⟩ := h.stream
  have hdue := hcount hen
  have hword : itemLegal s.width s.params.endCode (.data (justify s.params.adcRes s.width raw)) = true :=
    decide_eq_true (justify_lt _ _ _)
  obtain ⟨hlast, ht⟩ | ⟨hmore, ht⟩ := convStep_cases s raw <;> rw [ht]
  case inl =>
    have hpushed := h.convert hen hpend (c := 0#3)
      (items := [.data (justify s.params.adcRes s.width raw), .ctrl s.params.endCode])
      ((streamEnd_append _ _ _).mpr ⟨_, hstream, by simp [hdue, hlast]⟩) hpos
      (List.forall_mem_cons.mpr ⟨hword, by simp [itemLegal]⟩) (by simp)
    rw [← List.singleton_append, ← List.append_assoc] at hpushed
    exact (hpushed.record (e := .push (.data _)) rfl rfl).record (e := .push (.ctrl _)) rfl rfl
  case inr =>
    have hnext : (s.pktcnt + 1#3).toNat = s.pktcnt.toNat + 1 := toNat_add_one_of_lt hdue (by omega)
    have hpushed := h.convert hen hpend (c := s.pktcnt + 1#3)
      (items := [.data (justify s.params.adcRes s.width raw)])
      ((streamEnd_append _ _ _).mpr ⟨_, hstream, by simp [hdue, hnext]⟩) (by omega) (by simp [hword]) (by simp)
    exact hpushed.record (e := .push (.data _)) rfl rfl

/-! ## Reading -/

/-- The reader port can be freed at any time (R38). -/
theorem idleRdPort (h : s.WellBehaved) : (s.idlePort .rd).WellBehaved := by
  obtain ⟨hlegal, hcmd, haborted⟩ := h.fault
  have hcleared : (s.idlePort .rd).clearedWhileDisabled := fun hd => by
    obtain ⟨hch, hpkt, hpend, hfifo, hpos, -, hctrl, hcw, hrw⟩ := h.cleared hd
    exact ⟨hch, hpkt, hpend, hfifo, hpos, rfl, hctrl, hcw, hrw⟩
  exact { h with
    cleared := hcleared
    rdPort := ⟨by simp [State.idlePort], nofun, nofun, fun _ => rfl⟩
    fault := ⟨hlegal, hcmd, fun hf => ⟨(haborted hf).1, rfl⟩⟩ }

/-- READ at a free reader port (R107). -/
theorem readBody (h : s.WellBehaved) (hf : s.faulted = false) (hfree : s.rdBusy = false) :
    (s.readBody (encode .read)).WellBehaved := by
  unfold State.readBody
  split
  · next hen =>
    obtain ⟨hlegal, hcmd, -⟩ := h.fault
    obtain ⟨-, -, -, hidx⟩ := h.rdPort
    have hidle : s.rdOp ≠ .readPacket := by simp [h.rdOp_eq_none hfree]
    exact { h with
      cleared := clearedWhileDisabled_of_enabled hen
      rdPort := ⟨by simp, nofun, fun _ => ⟨rfl, rfl⟩, fun _ => hidx hidle⟩
      fault := ⟨hlegal, hcmd, fun ht => absurd (hf.symm.trans ht) nofun⟩ }
  · exact h.faultEnter hf (by decide) _

/-- READ_PACKET (R110). -/
theorem readPacketBody (h : s.WellBehaved) (hf : s.faulted = false) :
    (s.readPacketBody (encode .readPacket)).WellBehaved := by
  obtain ⟨-, ht⟩ | ⟨-, -, ht⟩ | ⟨hen, hpos, ht⟩ := readPacketBody_cases s (encode .readPacket) <;> rw [ht]
  · exact h.faultEnter hf (by decide) _
  · exact h.faultEnter hf (by decide) _
  · obtain ⟨hlegal, hcmd, -⟩ := h.fault
    exact { h with
      cleared := clearedWhileDisabled_of_enabled hen
      rdPort := ⟨by simp, fun _ => ⟨hpos.symm, rfl⟩, nofun, fun hne => absurd rfl hne⟩
      fault := ⟨hlegal, hcmd, fun hfault => absurd (hf.symm.trans hfault) nofun⟩ }

/-- What is left of the FIFO without its head is legal and counts for no more (R34, R74). -/
theorem rest_legal (h : s.WellBehaved) {x : WireItem} {rest : List WireItem} (hfifo : s.fifo = x :: rest) :
    ({ s with fifo := rest }).itemsLegal ∧ ({ s with fifo := rest }).occupancyBounded := by
  have htail : rest.Sublist s.fifo := hfifo ▸ List.sublist_cons_self x rest
  exact ⟨fun y hy => h.items y (htail.subset hy),
    (Nat.add_le_add_right (htail.countP_le) _).trans h.occupancy⟩

/-- A data word taken from the head, with RD_IDX in step with RD_POS during a READ_PACKET (R40, R110). -/
theorem dropWord (h : s.WellBehaved) {w : Word} {rest : List WireItem} (hfifo : s.fifo = .data w :: rest) {idx : BitVec 3}
    (hpk : s.rdOp = .readPacket → idx = s.rdPos + 1#3) (hother : s.rdOp ≠ .readPacket → idx = 0#3) :
    ({ s with fifo := rest, rdPos := s.rdPos + 1#3, rdIdx := idx }).WellBehaved := by
  have hen := h.enabled_of_fifo hfifo
  obtain ⟨-, hle⟩ := h.spp_bounds hen
  obtain ⟨hstream, hcount⟩ := h.stream
  obtain ⟨hdue, hrest⟩ := streamEnd_data.mp (hfifo ▸ hstream)
  obtain ⟨hbusy, hpacket, hread, -⟩ := h.rdPort
  have hnext : (s.rdPos + 1#3).toNat = s.rdPos.toNat + 1 := toNat_add_one_of_lt hdue (by omega)
  obtain ⟨hitems, hocc⟩ := h.rest_legal hfifo
  exact { h with
    cleared := clearedWhileDisabled_of_enabled hen
    stream := ⟨hnext ▸ hrest, hcount⟩
    items := hitems
    occupancy := hocc
    rdPort := ⟨hbusy, fun hop => ⟨hpk hop, (hpacket hop).2⟩, hread, hother⟩ }

/-- A token taken from the head outside a READ_PACKET (R40): the reader is at the beginning of a packet. -/
theorem popToken (h : s.WellBehaved) (hop : s.rdOp ≠ .readPacket) {c : Byte} {rest : List WireItem}
    (hfifo : s.fifo = .ctrl c :: rest) : ({ s.popTo (.ctrl c) rest with rdPos := 0#3 }).WellBehaved := by
  have hen := h.enabled_of_fifo hfifo
  obtain ⟨hstream, hcount⟩ := h.stream
  obtain ⟨-, hrest⟩ := streamEnd_ctrl.mp (hfifo ▸ hstream)
  obtain ⟨hbusy, -, hread, hidx⟩ := h.rdPort
  obtain ⟨hitems, hocc⟩ := h.rest_legal hfifo
  have hcore : ({ s with fifo := rest, rdPos := 0#3 }).WellBehaved := { h with
    cleared := clearedWhileDisabled_of_enabled hen
    stream := ⟨hrest, hcount⟩
    items := hitems
    occupancy := hocc
    rdPort := ⟨hbusy, fun hpk => absurd hpk hop, hread, hidx⟩ }
  exact hcore.record (e := .pop (.ctrl c)) rfl rfl

/-- A word taken to SAMPLE while no reader command is in progress (R108, R113). -/
theorem takeWord (h : s.WellBehaved) (hop : s.rdOp = .none) {w : Word} {rest : List WireItem}
    (hfifo : s.fifo = .data w :: rest) : (s.takeWord w rest).WellBehaved := by
  obtain ⟨hbusy, hpacket, -, hidx⟩ := h.rdPort
  have hpopped := h.dropWord hfifo (idx := s.rdIdx) (fun hpk => absurd (hop.symm.trans hpk) nofun) hidx
  have hcore : ({ s with
      fifo := rest, rdPos := s.rdPos + 1#3, sample := s.sampleValue w, rdValid := true }).WellBehaved := { hpopped with
    rdPort := ⟨hbusy, fun hpk => absurd (hop.symm.trans hpk) nofun, fun hrd => absurd (hop.symm.trans hrd) nofun, hidx⟩ }
  exact (hcore.record (e := .pop (.data w)) rfl rfl).record (e := .deliver .sample _) rfl rfl

/-- A word taken to PKT_BUF by a READ_PACKET (R111). -/
theorem takePacketWord (h : s.WellBehaved) (hop : s.rdOp = .readPacket) {w : Word} {rest : List WireItem}
    (hfifo : s.fifo = .data w :: rest) : (s.takePacketWord w rest).WellBehaved := by
  obtain ⟨-, hpacket, -, -⟩ := h.rdPort
  have hpopped := h.dropWord hfifo (idx := s.rdIdx + 1#3) (fun _ => by rw [(hpacket hop).1]) (absurd hop)
  have hcore : ({ s with
      fifo := rest, rdPos := s.rdPos + 1#3, rdIdx := s.rdIdx + 1#3
      pktBuf := s.pktBuf.setIfInBounds s.rdIdx.toNat (s.sampleValue w) }).WellBehaved := { hpopped with }
  exact (hcore.record (e := .pop (.data w)) rfl rfl).record (e := .deliver (.pktBuf _) _) rfl rfl

/-- The loop of TRY_READ at a free reader port (R113). -/
theorem absorbTokens (items : List WireItem) (h : s.WellBehaved) (hop : s.rdOp = .none) (hfifo : s.fifo = items) :
    (s.absorbTokens items).WellBehaved := by
  induction items generalizing s with
  | nil => exact h
  | cons x rest ih =>
    cases x with
    | data w => exact h
    | ctrl c => exact ih (h.popToken (by simp [hop]) hfifo) hop rfl

/-- TRY_READ at a free reader port (R113). -/
theorem tryReadBody (h : s.WellBehaved) (hf : s.faulted = false) (hfree : s.rdBusy = false) (w : Word) :
    (s.tryReadBody w).WellBehaved := by
  have habsorbed := absorbTokens s.fifo h (h.rdOp_eq_none hfree) rfl
  have hop : (s.absorbTokens s.fifo).rdOp = .none := by
    rw [absorbTokens_frame]
    exact h.rdOp_eq_none hfree
  obtain ⟨-, ht⟩ | ⟨w, rest, -, hfifo, ht⟩ | ⟨-, -, ht⟩ := tryReadBody_cases s w <;> rw [ht]
  · exact h.faultEnter hf (by decide) _
  · exact habsorbed.takeWord hop hfifo
  · obtain ⟨hbusy, hpacket, -, hidx⟩ := habsorbed.rdPort
    exact { habsorbed with
      rdPort := ⟨hbusy, hpacket, fun hrd => absurd (hop.symm.trans hrd) nofun, hidx⟩ }

/-- The READER step (R108, R111): during a READ_PACKET the item at the head is the one that is due (R112). -/
theorem readerStep (h : s.WellBehaved) : s.readerStep.WellBehaved := by
  obtain ⟨-, hpacket, -, hidx⟩ := h.rdPort
  obtain ⟨hstream, -⟩ := h.stream
  obtain ⟨-, ht⟩ | ⟨c, rest, hop, hfifo, ht⟩ | ⟨w, rest, hop, hfifo, ht⟩ | ⟨w, rest, hop, hfifo, ht⟩ |
    ⟨c, rest, hop, hfifo, ht⟩ := readerStep_cases s <;> rw [ht]
  · exact h
  · exact h.popToken (by simp [hop]) hfifo
  · have hdone := h.idleRdPort.takeWord rfl hfifo
    have hkept : (s.idlePort .rd) = { s with rdBusy := false, rdOp := .none } := by
      simp [State.idlePort, hidx (by simp [hop])]
    rw [hkept] at hdone
    exact hdone
  · have hdue := (streamEnd_data.mp (hfifo ▸ hstream)).1
    rw [if_pos ((hpacket hop).1 ▸ hdue)]
    exact h.takePacketWord hop hfifo
  · have hdue := (streamEnd_ctrl.mp (hfifo ▸ hstream)).1
    rw [if_neg (by rw [(hpacket hop).1]; omega)]
    exact h.idleRdPort.popToken nofun hfifo

/-! ## Steps -/

/-- A command that its free port does not drop. -/
theorem commandBody (h : s.WellBehaved) {i : Instr} (hf : s.faulted = false ∨ i = .disableAll)
    (hfree : s.portBusy (portOf i) = false) : (commandBody i s).WellBehaved := by
  cases i with
  | disableAll => exact h.disableAll hfree
  | enable ch bps spp cal => exact h.enableBody (hf.resolve_right nofun) hfree ch bps spp cal
  | trigger => exact h.triggerBody (hf.resolve_right nofun) _
  | triggerPacket => exact h.triggerPacketBody (hf.resolve_right nofun)
  | read => exact h.readBody (hf.resolve_right nofun) hfree
  | readPacket => exact h.readPacketBody (hf.resolve_right nofun)
  | tryRead => exact h.tryReadBody (hf.resolve_right nofun) hfree _

/-- Whatever a step does to the block keeps the invariant. -/
theorem stepEffect (h : s.WellBehaved) {s' : State} (hstep : StepEffect s s') : s'.WellBehaved := by
  have haccepted (e : Env) (p : Port) (v : Word) : (({ s with env := e }).record (.accept p v)).WellBehaved :=
    (h.withEnv e).record rfl rfl
  cases hstep with
  | reset e => exact (h.withEnv e).tileReset
  | hold e => exact h.withEnv e
  | ctrlSeq e _ hen => exact (h.withEnv e).ctrlSeqStep hen
  | conv e raw _ hen => exact (h.withEnv e).convStep hen raw
  | reader e => exact (h.withEnv e).readerStep
  | drop e _ w hf => exact (haccepted e _ _).dropCommand hf _ w
  | malformed e _ _ hf => exact (haccepted e _ _).faultEnter hf (causeOfError_legal _) _
  | @command e g p v rest hword i hdec hf =>
    refine (haccepted e p v).commandBody hf ?_
    rw [portOf_of_decode hdec]
    cases p <;> exact hword.free

end State.WellBehaved

/-- Settles O48: a step is one of `StepEffect`, each of which keeps the invariant. -/
theorem stepKeepsWellBehaved : Obligations.StepKeepsWellBehaved :=
  fun _ _ h hstep => h.stepEffect (stepEffect_of_step hstep)

end Sys2Proof.Machine
end

section
/-! PROOF. Which steps write which registers (10_state.md R27, R29, R42, R43): every operation but those a claim names leaves the
registers the claim is about as they are. -/

namespace Sys2Proof.Machine

/-- The registers of the configuration: ENABLED and CONFIG. -/
def State.configRegs (s : State) : Bool × Word := (s.enabled, s.config)

/-- The data registers: SAMPLE and PKT_BUF. -/
def State.dataRegs (s : State) : Word × Vector Word 5 := (s.sample, s.pktBuf)

/-- One of ENABLED and CONFIG differs exactly when the pair does. -/
theorem configRegs_ne_iff {s t : State} : t.configRegs ≠ s.configRegs ↔ t.enabled ≠ s.enabled ∨ t.config ≠ s.config := by
  rw [ne_eq, State.configRegs, State.configRegs, Prod.mk.injEq, not_and_or]

/-- One of SAMPLE and PKT_BUF differs exactly when the pair does. -/
theorem dataRegs_ne_iff {s t : State} : t.dataRegs ≠ s.dataRegs ↔ t.sample ≠ s.sample ∨ t.pktBuf ≠ s.pktBuf := by
  rw [ne_eq, State.dataRegs, State.dataRegs, Prod.mk.injEq, not_and_or]

/-! ## Pulses and faults -/

theorem faultEnter_regs (s : State) (c : Cause) (w : Word) :
    (s.faultEnter c w).configRegs = s.configRegs ∧ (s.faultEnter c w).dataRegs = s.dataRegs := ⟨rfl, rfl⟩

theorem pulse_regs (s : State) (kind : PulseKind) :
    (s.pulse kind).configRegs = s.configRegs ∧ (s.pulse kind).dataRegs = s.dataRegs := by
  rw [pulse_eq]
  exact ⟨rfl, rfl⟩

theorem overrun_regs (s : State) (w : Word) :
    ((s.pulse .sample).faultEnter .overrun w).configRegs = s.configRegs ∧
    ((s.pulse .sample).faultEnter .overrun w).dataRegs = s.dataRegs := by
  obtain ⟨hconfig, hdata⟩ := faultEnter_regs (s.pulse .sample) .overrun w
  rw [hconfig, hdata]
  exact pulse_regs s .sample

theorem queuePulse_regs (s : State) : s.queuePulse.configRegs = s.configRegs ∧ s.queuePulse.dataRegs = s.dataRegs :=
  pulse_regs { s with pend := s.pend + 1#3 } .sample

/-! ## The agents of the block -/

theorem ctrlSeqStep_regs (s : State) : s.ctrlSeqStep.configRegs = s.configRegs ∧ s.ctrlSeqStep.dataRegs = s.dataRegs := by
  obtain ⟨-, h⟩ | ⟨-, -, h⟩ | ⟨-, -, h⟩ := ctrlSeqStep_cases s <;> rw [h]
  · exact overrun_regs s _
  · exact queuePulse_regs _
  · exact queuePulse_regs _

theorem convStep_regs (s : State) (raw : Word) :
    (s.convStep raw).configRegs = s.configRegs ∧ (s.convStep raw).dataRegs = s.dataRegs := by
  obtain ⟨-, h⟩ | ⟨-, h⟩ := convStep_cases s raw <;> rw [h] <;> exact ⟨rfl, rfl⟩

theorem readerStep_configRegs (s : State) : s.readerStep.configRegs = s.configRegs := by
  obtain ⟨-, h⟩ | ⟨c, rest, -, -, h⟩ | ⟨w, rest, -, -, h⟩ | ⟨w, rest, -, -, h⟩ | ⟨c, rest, -, -, h⟩ :=
    readerStep_cases s <;> rw [h]
  · rfl
  · rfl
  · split <;> rfl
  · split <;> rfl

/-! ## Commands -/

theorem enableBody_dataRegs (s : State) (word : Word) (ch : ChMask) (bps : BitVec 2) (spp : Nat) :
    (s.enableBody word ch bps spp).dataRegs = s.dataRegs := by
  obtain ⟨c, -, h⟩ | ⟨-, -, h⟩ | ⟨-, -, h⟩ := enableBody_cases s word ch bps spp <;> rw [h]
  · rfl
  · rfl
  · rw [calibrate_eq]
    rfl

theorem disableAll_dataRegs (s : State) : (commandBody .disableAll s).dataRegs = s.dataRegs := by
  dsimp only [commandBody]
  split <;> rfl

theorem triggerBody_regs (s : State) (word : Word) :
    (s.triggerBody word).configRegs = s.configRegs ∧ (s.triggerBody word).dataRegs = s.dataRegs := by
  obtain ⟨-, h⟩ | ⟨-, -, h⟩ | ⟨-, -, h⟩ := triggerBody_cases s word <;> rw [h]
  · exact faultEnter_regs s _ word
  · exact overrun_regs s word
  · exact queuePulse_regs s

theorem triggerPacketBody_regs (s : State) (word : Word) :
    (s.triggerPacketBody word).configRegs = s.configRegs ∧ (s.triggerPacketBody word).dataRegs = s.dataRegs := by
  unfold State.triggerPacketBody
  split <;> exact ⟨rfl, rfl⟩

theorem readBody_regs (s : State) (word : Word) :
    (s.readBody word).configRegs = s.configRegs ∧ (s.readBody word).dataRegs = s.dataRegs := by
  unfold State.readBody
  split <;> exact ⟨rfl, rfl⟩

theorem readPacketBody_regs (s : State) (word : Word) :
    (s.readPacketBody word).configRegs = s.configRegs ∧ (s.readPacketBody word).dataRegs = s.dataRegs := by
  obtain ⟨-, h⟩ | ⟨-, -, h⟩ | ⟨-, -, h⟩ := readPacketBody_cases s word <;> rw [h] <;> exact ⟨rfl, rfl⟩

/-- TRY_READ delivers to SAMPLE and to no other register of the two pairs (R113). -/
theorem tryReadBody_regs (s : State) (word : Word) :
    (s.tryReadBody word).configRegs = s.configRegs ∧ (s.tryReadBody word).pktBuf = s.pktBuf := by
  obtain ⟨-, h⟩ | ⟨w, rest, -, -, h⟩ | ⟨-, -, h⟩ := tryReadBody_cases s word <;> rw [h]
  · exact ⟨rfl, rfl⟩
  · rw [absorbTokens_frame]
    exact ⟨rfl, rfl⟩
  · rw [absorbTokens_frame]
    exact ⟨rfl, rfl⟩

/-- A command that changes ENABLED or CONFIG is DISABLE_ALL or ENABLE (R29). -/
theorem command_of_configRegs_ne {i : Instr} {s : State} (h : (commandBody i s).configRegs ≠ s.configRegs) :
    i = .disableAll ∨ ∃ ch bps spp cal, i = .enable ch bps spp cal := by
  cases i with
  | enable ch bps spp cal => exact .inr ⟨ch, bps, spp, cal, rfl⟩
  | disableAll => exact .inl rfl
  | trigger => exact absurd (triggerBody_regs s _).1 h
  | triggerPacket => exact absurd (triggerPacketBody_regs s _).1 h
  | read => exact absurd (readBody_regs s _).1 h
  | readPacket => exact absurd (readPacketBody_regs s _).1 h
  | tryRead => exact absurd (tryReadBody_regs s _).1 h

/-- A command that changes SAMPLE or PKT_BUF is TRY_READ (R42, R43). -/
theorem command_of_dataRegs_ne {i : Instr} {s : State} (h : (commandBody i s).dataRegs ≠ s.dataRegs) : i = .tryRead := by
  cases i with
  | enable ch bps spp cal => exact absurd (enableBody_dataRegs s _ ch bps spp) h
  | disableAll => exact absurd (disableAll_dataRegs s) h
  | trigger => exact absurd (triggerBody_regs s _).2 h
  | triggerPacket => exact absurd (triggerPacketBody_regs s _).2 h
  | read => exact absurd (readBody_regs s _).2 h
  | readPacket => exact absurd (readPacketBody_regs s _).2 h
  | tryRead => rfl

/-! ## Words -/

/-- A word with no bit above its opcode is that opcode (R66). -/
theorem eq_opField_of_high_bits_zero {v : Word} (h : v &&& 0xFFFFFFF0#32 = 0#32) : v = (opField v).setWidth 32 := by
  have hlow : v = v &&& 0xF#32 :=
    calc v = v &&& (0xFFFFFFF0#32 ||| 0xF#32) := (BitVec.and_allOnes (x := v)).symm
      _ = v &&& 0xF#32 := by rw [BitVec.and_or_distrib_left, h, BitVec.zero_or]
  apply BitVec.eq_of_toNat_eq
  calc v.toNat = v.toNat &&& 2 ^ 4 - 1 := congrArg BitVec.toNat hlow
    _ = v.toNat % 2 ^ 4 := Nat.and_two_pow_sub_one_eq_mod _ 4
    _ = ((opField v).setWidth 32).toNat := by
      rw [BitVec.toNat_setWidth, opField, BitVec.extractLsb'_toNat, Nat.shiftRight_zero]
      omega

theorem eq_of_opcodeOfBits_tryRead : ∀ op : BitVec 4, opcodeOfBits op = some .tryRead → op = 0xA#4 := by decide

/-- The only word that the reader port takes for TRY_READ (R66, R68). -/
theorem eq_of_decode_tryRead {v : Word} (h : decode .rd v = .ok .tryRead) : v = 0x0000000A#32 := by
  unfold decode at h
  split at h
  · cases h
  · next o hop =>
    split_ifs at h with hport hbits
    cases o <;> cases h
    rw [eq_opField_of_high_bits_zero (not_not.mp hbits), eq_of_opcodeOfBits_tryRead _ hop]
    rfl

/-! ## The claims -/

/-- Settles O56: by `StepEffect`, only the body of a command can change the pair, and only for the two commands. -/
theorem onlyEnableAndDisableChangeConfig : Obligations.OnlyEnableAndDisableChangeConfig := by
  intro s s' hstep hturn hne
  have hregs : s'.configRegs ≠ s.configRegs := configRegs_ne_iff.mpr hne
  cases stepEffect_of_step hstep with
  | reset e ht => exact absurd ht hturn
  | hold e => exact absurd rfl hregs
  | ctrlSeq e => exact absurd (ctrlSeqStep_regs _).1 hregs
  | conv e raw => exact absurd (convStep_regs _ raw).1 hregs
  | reader e => exact absurd (readerStep_configRegs _) hregs
  | drop e => exact absurd rfl hregs
  | malformed e => exact absurd rfl hregs
  | @command e g p v rest hword i hdec hf =>
    have hi := command_of_configRegs_ne hregs
    have hport : p = .ctrl := by
      rw [← portOf_of_decode hdec]
      obtain rfl | ⟨ch, bps, spp, cal, rfl⟩ := hi <;> rfl
    subst hport
    refine ⟨g, v, rest, i, hword.turn, hword.todo, hdec, hword.free, hi.imp_right ?_⟩
    rintro ⟨ch, bps, spp, cal, rfl⟩
    exact ⟨ch, bps, spp, cal, rfl, hf.resolve_right nofun⟩

/-- Settles O57: by `StepEffect`, only READER, the reset and the body of TRY_READ can change the pair. -/
theorem onlyReaderWritesDataRegisters : Obligations.OnlyReaderWritesDataRegisters := by
  intro s s' hstep hne
  have hregs : s'.dataRegs ≠ s.dataRegs := dataRegs_ne_iff.mpr hne
  cases stepEffect_of_step hstep with
  | reset e ht => exact .inl ht
  | hold e => exact absurd rfl hregs
  | ctrlSeq e => exact absurd (ctrlSeqStep_regs _).2 hregs
  | conv e raw => exact absurd (convStep_regs _ raw).2 hregs
  | reader e ht => exact .inr (.inl ht)
  | drop e => exact absurd rfl hregs
  | malformed e => exact absurd rfl hregs
  | @command e g p v rest hword i hdec hf =>
    obtain rfl := command_of_dataRegs_ne hregs
    obtain rfl : .rd = p := portOf_of_decode hdec
    obtain rfl := eq_of_decode_tryRead hdec
    exact .inr (.inr ⟨g, rest, hword.turn, hword.todo, (tryReadBody_regs _ _).2⟩)

end Sys2Proof.Machine
end

section
/-! PROOF. STATUS (10_state.md R47): its fields stand apart, so each is read back as the value placed in it and every other bit is
zero. -/

namespace Sys2Proof.Machine

/-! ## Fields of a word -/

/-- A bit of a placed field. -/
theorem getLsbD_placeField (n pos k : Nat) (v : BitVec n) :
    (placeField n pos v).getLsbD k = (decide (k < 32) && decide (pos ≤ k) && v.getLsbD (k - pos)) := by
  rw [placeField, BitVec.getLsbD_shiftLeft, BitVec.getLsbD_setWidth]
  by_cases hk : k < 32
  · have hsub : k - pos < 32 := by omega
    simp only [hk, hsub, decide_true, Bool.true_and, ← decide_not, Nat.not_lt]
  · simp [hk]

/-- A placed field is read back (R47, R65). -/
theorem extractLsb'_placeField_self {n pos : Nat} (v : BitVec n) (hfit : pos + n ≤ 32) :
    (placeField n pos v).extractLsb' pos n = v := by
  apply BitVec.eq_of_getLsbD_eq
  intro k hk
  have hword : pos + k < 32 := by omega
  rw [BitVec.getLsbD_extractLsb', getLsbD_placeField]
  simp [hk, hword]

/-- A placed field leaves a bit outside it zero. -/
theorem getLsbD_placeField_disjoint {n pos k : Nat} (v : BitVec n) (h : k < pos ∨ pos + n ≤ k) :
    (placeField n pos v).getLsbD k = false := by
  rw [getLsbD_placeField, Bool.and_assoc, Bool.and_eq_false_imp, Bool.and_eq_false_imp]
  intro _ hle
  exact BitVec.getLsbD_of_ge _ _ (by have := of_decide_eq_true hle; omega)

/-- A placed field leaves the bits outside it zero. -/
theorem extractLsb'_placeField_disjoint {n pos start len : Nat} (v : BitVec n) (h : start + len ≤ pos ∨ pos + n ≤ start) :
    (placeField n pos v).extractLsb' start len = 0#len := by
  apply BitVec.eq_of_getLsbD_eq
  intro k hk
  rw [BitVec.getLsbD_extractLsb', getLsbD_placeField_disjoint v (by omega), Bool.and_false, BitVec.getLsbD_zero]

/-- A flag is read back from its bit. -/
theorem getLsbD_placeField_flag {pos : Nat} (b : Bool) (hfit : pos < 32) :
    (placeField 1 pos (BitVec.ofBool b)).getLsbD pos = b := by
  rw [getLsbD_placeField]
  simp [hfit]

/-! ## STATUS -/

/-- The fields of STATUS hold the derived values of R41, R45 and R128. -/
theorem statusWord_derived (s : State) :
    s.faulted = decide (s.fault.extractLsb' 0 5 ≠ 0#5) ∧
    s.dataReady = (s.enabled && decide (s.fault.extractLsb' 0 5 = 0#5) && decide (0 < dataCount s.fifo)) ∧
    s.pktReady = (s.enabled && decide (s.fault.extractLsb' 0 5 = 0#5) && decide (s.rdPos = 0#3) &&
      decide ((s.config.extractLsb' 20 3).toNat ≤ dataCount s.fifo)) ∧
    rdStateCode s.rdState =
      (if s.rdPos ≠ 0#3 then 2#2 else if 0 < dataCount s.fifo + s.pend.toNat then 1#2 else 0#2) := by
  have hnot : (!s.faulted) = decide (s.fault.extractLsb' 0 5 = 0#5) := by simp [State.faulted]
  refine ⟨rfl, ?_, ?_, ?_⟩
  · rw [State.dataReady, hnot]
  · rw [State.pktReady, hnot, State.spp, sppField]
  · rw [State.rdState, State.occ, apply_ite rdStateCode, apply_ite rdStateCode]
    rfl

/-- Settles O15: each field of STATUS is read back from its place, and the bits of R47 that are no field's are outside them all. -/
theorem statusFields : Obligations.StatusFields := by
  refine ⟨by decide, fun s => ?_⟩
  obtain ⟨hfaulted, hdata, hpkt, hrd⟩ := statusWord_derived s
  rw [← hfaulted, ← hdata, ← hpkt, ← hrd]
  simp (disch := decide) only [State.statusWord, State.occ, BitVec.extractLsb'_or, BitVec.getLsbD_or,
    getLsbD_placeField_flag, getLsbD_placeField_disjoint, extractLsb'_placeField_self, extractLsb'_placeField_disjoint,
    BitVec.or_zero, BitVec.zero_or, Bool.or_false, Bool.false_or, List.forall_mem_cons, List.not_mem_nil,
    false_imp_iff, implies_true, and_self]

end Sys2Proof.Machine
end

section
/-! PROOF. The host agents' side of a step (20_memory.md R49 to R58): what an access reaches, what a host's turn does with its next
access, and that a queue of accesses is used only from its head. -/

namespace Sys2Proof.Machine

/-! ## What an access reaches (R50, R51, R55) -/

/-- The three conditions R55 puts on an access; an access that fails one of them reaches no register. -/
theorem registerOf_eq_none_iff {base width addr : Nat} :
    registerOf base width addr = none ↔ ¬(width = 4 ∧ base ≤ addr ∧ addr < base + 64 ∧ (addr - base) % 4 = 0) := by
  rw [registerOf, ite_eq_right_iff]
  simp only [reduceCtorEq, imp_false]

/-- A 32-bit access at an aligned offset of the window reaches the register of that slot (R50). -/
theorem registerOf_offset {base off : Nat} (hwindow : off ≤ 0x3C) (halign : off % 4 = 0) :
    registerOf base 4 (base + off) = some (registerAt (off / 4)) := by
  have hreach : 4 = 4 ∧ base ≤ base + off ∧ base + off < base + 64 ∧ (base + off - base) % 4 = 0 := by omega
  rw [registerOf, if_pos hreach, Nat.add_sub_cancel_left]

/-- With an aligned base (R14) the accesses that R55 names reach no register. -/
theorem accessRegister_eq_none {s : State} {a : Access} (hparams : s.params.wellFormed = true)
    (hbad : (accessTarget a).1 ≠ 4 ∨ (accessTarget a).2 % 4 ≠ 0 ∨ (accessTarget a).2 < s.params.adcBase ∨
      s.params.adcBase + 0x3F < (accessTarget a).2) : s.accessRegister a = none := by
  have hbase : s.params.adcBase % 64 = 0 := by
    simp only [Params.wellFormed, Bool.and_eq_true, decide_eq_true_eq] at hparams
    exact hparams.2
  rw [State.accessRegister, registerOf_eq_none_iff]
  omega

/-- From offset 0x08 on, no register presents words to a port (R50, R52). -/
theorem commandPort_registerAt_eq_none {k : Nat} (hk : 2 ≤ k) : commandPort (registerAt k) = none := by
  cases hport : commandPort (registerAt k) with
  | none => rfl
  | some p =>
    have hoff := commandPort_registerAt hport
    cases p <;> simp only [portRegister, registerOffset] at hoff <;> omega

@[simp] theorem commandPort_portRegister (p : Port) : commandPort (portRegister p) = some p := by cases p <;> rfl

/-- The sixteen slots of the window, in the order of their offsets, with the values a read returns (R50, R51). -/
def State.windowRows (s : State) : List (Nat × Word) :=
  (List.range 16).map fun k => (4 * k, s.readRegister (registerAt k))

theorem of_mem_windowRows {s : State} {row : Nat × Word} (hrow : row ∈ s.windowRows) :
    row.1 ≤ 0x3C ∧ row.1 % 4 = 0 ∧ row.2 = s.readRegister (registerAt (row.1 / 4)) := by
  obtain ⟨k, hk, rfl⟩ := List.mem_map.mp hrow
  have hlt : k < 16 := List.mem_range.mp hk
  refine ⟨by dsimp only; omega, Nat.mul_mod_right 4 k, ?_⟩
  rw [Nat.mul_div_cancel_left k (by decide)]

/-! ## Which hosts have a step (R53) -/

theorem hostEnabled_of_todo {s : State} {h : HostAgent} {a : Access} {rest : List Access}
    (htodo : (s.host h).todo = a :: rest) : s.hostEnabled h = !s.stalls a := by
  rw [State.hostEnabled, htodo]

/-- A bus error does not wait (R53, R55). -/
theorem stalls_of_accessRegister_none {s : State} {a : Access} (hreg : s.accessRegister a = none) : s.stalls a = false := by
  cases a with
  | read | poll => rfl
  | write width addr v =>
    have hnone : registerOf s.params.adcBase width addr = none := hreg
    simp only [State.stalls, hnone]

/-- Nor does an access to a register that presents words to no port (R53, R54). -/
theorem stalls_of_commandPort_none {s : State} {a : Access} {r : Register} (hreg : s.accessRegister a = some r)
    (hport : commandPort r = none) : s.stalls a = false := by
  cases a with
  | read | poll => rfl
  | write width addr v =>
    have hsome : registerOf s.params.adcBase width addr = some r := hreg
    simp only [State.stalls, hsome, hport]

/-- Whether an access waits does not depend on the environment (R24). -/
theorem stalls_withEnv (s : State) (e : Env) (a : Access) : ({ s with env := e }).stalls a = s.stalls a := by
  cases a <;> simp only [State.stalls, portBusy_withEnv]

/-- Using the turn enables and holds no host. -/
@[simp] theorem consumeTurn_hostEnabled (s : State) (h : HostAgent) : s.consumeTurn.hostEnabled h = s.hostEnabled h := by
  have hstalls (a : Access) : s.consumeTurn.stalls a = s.stalls a := by rw [consumeTurn_eq, stalls_withEnv]
  simp only [State.hostEnabled, consumeTurn_host, hstalls]

@[simp] theorem consumeTurn_accessRegister (s : State) (a : Access) : s.consumeTurn.accessRegister a = s.accessRegister a := by
  simp only [State.accessRegister, State.consumeTurn_params]

/-! ## What a host's turn does -/

/-- A host that has no step holds: its turn changes only the schedule (R53). -/
theorem step_of_hostHeld {s : State} {h : HostAgent} (hturn : s.nextTurn = .agent (.host h))
    (hheld : s.hostEnabled h = false) : step s = .next s.consumeTurn := by
  simp [step_eq, hturn, takeTurn, State.agentEnabled, hheld]

/-- The turn of a host that has a step is its step. -/
theorem step_of_hostEnabled {s : State} {h : HostAgent} (hturn : s.nextTurn = .agent (.host h))
    (hen : s.hostEnabled h = true) : step s = hostStep h s.consumeTurn := by
  simp [step_eq, hturn, takeTurn, State.agentEnabled, hen, agentStep]

/-- A host whose next access reaches no register ends the run with a bus error (R55). -/
theorem hostStep_of_accessRegister_none {s : State} {h : HostAgent} {a : Access} {rest : List Access}
    (htodo : (s.host h).todo = a :: rest) (hreg : s.accessRegister a = none) :
    hostStep h s = .fault (.busError h (accessTarget a).2) := by
  simp only [hostStep, htodo, hreg]

/-- A host whose next access reaches a register performs it there (R51, R52). -/
theorem hostStep_of_accessRegister_some {s : State} {h : HostAgent} {a : Access} {rest : List Access} {r : Register}
    (htodo : (s.host h).todo = a :: rest) (hreg : s.accessRegister a = some r) :
    hostStep h s = performAccess h a rest r s := by
  simp only [hostStep, htodo, hreg]

/-- A command write done presents its word to the port (R52). -/
theorem hostStep_of_commandWrite {s : State} {h : HostAgent} {p : Port} {v : Word} {rest : List Access}
    (htodo : (s.host h).todo = s.commandWrite p v :: rest) :
    hostStep h s = acceptWord p v (s.setHost h { todo := rest, lastRead := (s.host h).lastRead }) := by
  have hreg : s.accessRegister (s.commandWrite p v) = some (portRegister p) := registerOf_commandWrite _ p
  rw [hostStep_of_accessRegister_some htodo hreg, State.commandWrite]
  simp only [performAccess, writeRegister, commandPort_portRegister]

/-- An accepted word that decodes is executed in the state that has recorded the acceptance (R52, R72, R73). -/
theorem acceptWord_of_decode {p : Port} {v : Word} {i : Instr} (hdec : decode p v = .ok i) (s : State) :
    acceptWord p v s = exec i (s.record (.accept p v)) := by
  simp only [acceptWord, hdec]

/-- Replacing a host's side leaves the schedule and the analog inputs as they are. -/
theorem setHost_env_frame (s : State) (h : HostAgent) (x : HostState) :
    (s.setHost h x).env =
      { (s.setHost h x).env with
        turns := s.env.turns, turnIdx := s.env.turnIdx, draws := s.env.draws, drawIdx := s.env.drawIdx } := by
  cases h <;> rfl

/-! ## The claims about one access -/

/-- Settles O14: such an access reaches no register, so it does not wait, and the host's step is the bus error. -/
theorem busErrors : Obligations.BusErrors := by
  intro s h a rest hparams hturn htodo hbad
  have hreg : s.accessRegister a = none := accessRegister_eq_none hparams hbad
  have hen : s.hostEnabled h = true := by
    rw [hostEnabled_of_todo htodo, stalls_of_accessRegister_none hreg, Bool.not_false]
  rw [step_of_hostEnabled hturn hen]
  exact hostStep_of_accessRegister_none (by rwa [consumeTurn_host]) (by rwa [consumeTurn_accessRegister])

/-- Settles O9: the port is free, so the host's turn is its step, which presents the word and executes it. -/
theorem stepRunsDecodedCommand : Obligations.StepRunsDecodedCommand := by
  intro s h p v i rest hturn htodo hfree hdec
  have hen : s.hostEnabled h = true := by rw [hostEnabled_commandWrite htodo, hfree, Bool.not_false]
  have hwrite : s.consumeTurn.commandWrite p v = s.commandWrite p v := by
    simp only [State.commandWrite, State.consumeTurn_params]
  have hnext : (s.consumeTurn.host h).todo = s.consumeTurn.commandWrite p v :: rest := by
    rw [consumeTurn_host, hwrite, htodo]
  rw [step_of_hostEnabled hturn hen, hostStep_of_commandWrite hnext, acceptWord_of_decode hdec, consumeTurn_host]

/-- Settles O11: the rows are those of `windowRows`, and a read only replaces the reading host's side. -/
theorem registerReads : Obligations.RegisterReads := by
  intro s h rest row hrow htodo
  obtain ⟨hwindow, halign, hval⟩ := of_mem_windowRows (s := s) hrow
  have hreg : s.accessRegister (.read 4 (s.params.adcBase + row.1)) = some (registerAt (row.1 / 4)) :=
    registerOf_offset hwindow halign
  refine ⟨by rw [hostEnabled_of_todo htodo]; rfl, s.setHost h { todo := rest, lastRead := some row.2 }, ?_,
    setHost_eq .., State.setHost_host_self .., fun g hg => State.setHost_host_other _ _ _ _ hg, setHost_env_frame ..⟩
  rw [hostStep_of_accessRegister_some htodo hreg, hval]
  rfl

/-- Settles O12: from offset 0x08 on the register reached is no command register. -/
theorem otherWritesIgnored : Obligations.OtherWritesIgnored := by
  intro s h off v rest hlow hwindow halign htodo
  have hreg : s.accessRegister (.write 4 (s.params.adcBase + off) v) = some (registerAt (off / 4)) :=
    registerOf_offset hwindow halign
  have hport : commandPort (registerAt (off / 4)) = none := commandPort_registerAt_eq_none (by omega)
  refine ⟨by rw [hostEnabled_of_todo htodo, stalls_of_commandPort_none hreg hport, Bool.not_false], ?_⟩
  rw [hostStep_of_accessRegister_some htodo hreg]
  simp only [performAccess, writeRegister, hport]

/-- Settles O13: such a host has a step exactly when the port is free. -/
theorem busyPortStalls : Obligations.BusyPortStalls := by
  intro s h p v rest htodo
  have hen : s.hostEnabled h = !s.portBusy p := hostEnabled_commandWrite htodo
  refine ⟨fun hbusy => ?_, fun hfree => by rw [hen, hfree, Bool.not_false]⟩
  have hheld : s.hostEnabled h = false := by rw [hen, hbusy, Bool.not_true]
  exact ⟨hheld, fun hturn => step_of_hostHeld hturn hheld⟩

/-! ## The order of accesses (R58) -/

theorem host_congr {s t : State} (henv : t.env = s.env) (h : HostAgent) : t.host h = s.host h := by
  cases h <;> simp only [State.host, henv]

theorem ctrlSeqStep_env (s : State) : s.ctrlSeqStep.env = s.env := by
  obtain ⟨-, h⟩ | ⟨-, -, h⟩ | ⟨-, -, h⟩ := ctrlSeqStep_cases s <;> rw [h] <;> rfl

theorem convStep_env (s : State) (raw : Word) : (s.convStep raw).env = s.env := by
  obtain ⟨-, h⟩ | ⟨-, h⟩ := convStep_cases s raw <;> rw [h] <;> rfl

theorem readerStep_env (s : State) : s.readerStep.env = s.env := by
  obtain ⟨-, h⟩ | ⟨c, rest, -, -, h⟩ | ⟨w, rest, -, -, h⟩ | ⟨w, rest, -, -, h⟩ | ⟨c, rest, -, -, h⟩ := readerStep_cases s <;>
    rw [h]
  · rfl
  · rfl
  · split <;> rfl
  · split <;> rfl

/-- Taking a draw leaves the hosts as they are. -/
@[simp] theorem consumeDraw_host (s : State) (h : HostAgent) : s.consumeDraw.host h = s.host h := by
  unfold State.consumeDraw; cases h <;> split <;> rfl

/-- What a port does with a word is no part of the environment (R24). -/
theorem acceptWord_env {p : Port} {v : Word} {s t : State} (h : acceptWord p v s = .next t) : t.env = s.env := by
  obtain ⟨i, -, hexec⟩ | ⟨e, -, rfl⟩ := acceptWord_cases h
  · exact (exec_keeps hexec).1
  · obtain ⟨-, ht⟩ | ⟨-, ht⟩ := rejectWord_cases (s.record (.accept p v)) p v e <;> rw [ht] <;> rfl

/-- A host's step keeps its queue of accesses or takes the head, and leaves the rest of the environment as it is. -/
theorem hostStep_env {g : HostAgent} {s s' : State} (h : hostStep g s = .next s') :
    ∃ x, s'.env = (s.setHost g x).env ∧ (x.todo = (s.host g).todo ∨ ∃ a, (s.host g).todo = a :: x.todo) := by
  obtain ⟨-, rfl⟩ | ⟨a, rest, x, htodo, rfl, hx⟩ | ⟨p, v, rest, htodo, hacc⟩ := hostStep_cases h
  · exact ⟨s'.host g, by cases g <;> rfl, .inl rfl⟩
  · obtain rfl | hkept := hx
    · exact ⟨x, rfl, .inr ⟨a, htodo⟩⟩
    · exact ⟨x, rfl, .inl (hkept.trans htodo.symm)⟩
  · exact ⟨_, acceptWord_env hacc, .inr ⟨_, htodo⟩⟩

/-- Settles O60: the block's own agents leave the hosts alone, and a host's step replaces only its own side, by `hostStep_env`. -/
theorem hostAccessesKeepTheirOrder : Obligations.HostAccessesKeepTheirOrder := by
  intro s s' h hstep
  rw [step_eq] at hstep
  obtain ⟨hturn, rfl⟩ | ⟨-, -, -, rfl⟩ | ⟨-, -, rfl⟩ | ⟨-, -, rfl⟩ | ⟨-, -, rfl⟩ | ⟨g, hturn, -, hhost⟩ :=
    takeTurn_cases hstep
  · exact .inr (.inr ⟨hturn, by cases h <;> rfl⟩)
  · rw [consumeTurn_host]
    exact .inl rfl
  · rw [host_congr (ctrlSeqStep_env _), consumeTurn_host]
    exact .inl rfl
  · rw [host_congr (convStep_env _ _), consumeDraw_host, consumeTurn_host]
    exact .inl rfl
  · rw [host_congr (readerStep_env _), consumeTurn_host]
    exact .inl rfl
  · obtain ⟨x, henv, hx⟩ := hostStep_env hhost
    rw [host_congr henv, setHost_host]
    by_cases hself : h = g
    · subst hself
      rw [consumeTurn_host] at hx
      rw [if_pos rfl]
      exact hx.imp_right fun htaken => .inl ⟨hturn, htaken⟩
    · rw [if_neg hself, consumeTurn_host]
      exact .inl rfl

end Sys2Proof.Machine
end

section
/-! PROOF. A command word presented from the table (20_memory.md R52, R62): a word that decodes is the encoding of its command,
because every bit outside its fields is zero (30_encoding.md R64 to R68), and presenting it takes nothing else from the state. -/

namespace Sys2Proof.Machine

/-! ## A word that decodes is its command's encoding -/

/-- A field put back in its place is the word under the field's mask. -/
theorem placeField_extractLsb' (n pos : Nat) (v : Word) :
    placeField n pos (v.extractLsb' pos n) = v &&& placeField n pos (BitVec.allOnes n) := by
  apply BitVec.eq_of_getLsbD_eq
  intro k hk
  rw [BitVec.getLsbD_and, getLsbD_placeField, getLsbD_placeField, BitVec.getLsbD_extractLsb', BitVec.getLsbD_allOnes]
  by_cases hpos : pos ≤ k
  · simp only [hpos, Nat.add_sub_cancel' hpos, hk, decide_true, Bool.true_and, Bool.and_comm]
  · simp [hpos]

/-- The OP field of every legal opcode is that opcode (R68). -/
theorem opcodeBits_of_opcodeOfBits : ∀ (op : BitVec 4) (o : Opcode), opcodeOfBits op = some o → opcodeBits o = op := by
  intro op o
  cases o <;> revert op <;> decide

/-- The fields of format CFG, read and put back, are the word without its reserved bits (R65, R67). -/
theorem encodeEnable_fields {v : Word} (hop : opcodeBits .enable = opField v) :
    encodeEnable (chEnField v) (bpsField v) (sppField v) (calField v) = v &&& ~~~reservedMask .enable := by
  have hspp : BitVec.ofNat 3 (sppField v) = v.extractLsb' 20 3 := by
    rw [sppField, BitVec.ofNat_toNat, BitVec.setWidth_eq]
  have hcal : BitVec.ofBool (calField v) = v.extractLsb' 24 1 := by
    apply BitVec.eq_of_getLsbD_eq
    intro k hk
    simp [calField, Nat.lt_one_iff.mp hk]
  rw [encodeEnable, hop, hspp, hcal, opField, chEnField, bpsField]
  simp only [placeField_extractLsb', ← BitVec.and_or_distrib_left]
  rfl

/-- The operands of a word, encoded again, are the word without its reserved bits (R64 to R67). -/
theorem encode_assembleOperands {v : Word} {o : Opcode} (hop : opcodeBits o = opField v) :
    encode (assembleOperands o v) = v &&& ~~~reservedMask o := by
  have hbare : encodeBare o = v &&& ~~~0xFFFFFFF0#32 := by
    rw [encodeBare, hop, opField, placeField_extractLsb']
    rfl
  cases o with
  | enable => exact encodeEnable_fields hop
  | _ => exact hbare

/-- A word a port decodes is the encoding of its command (R64 to R68). -/
theorem encode_of_decode {p : Port} {v : Word} {i : Instr} (h : decode p v = .ok i) : encode i = v := by
  unfold decode at h
  split at h
  · cases h
  · next o hop =>
    split_ifs at h with hport hbits
    cases h
    rw [encode_assembleOperands (opcodeBits_of_opcodeOfBits _ _ hop)]
    calc v &&& ~~~reservedMask o
        = (v &&& ~~~reservedMask o) ||| (v &&& reservedMask o) := by rw [not_not.mp hbits, BitVec.or_zero]
      _ = v := by rw [← BitVec.and_or_distrib_left, BitVec.or_comm, BitVec.or_not_self, BitVec.and_allOnes]

/-- A row of the table that decodes does so on the port its bit 3 selects (R64). -/
theorem decode_of_decodeTableWord {nbits w : Nat} {i : Instr} (h : decodeTableWord nbits w = some i) :
    decode (portOfWord (tableWord nbits w)) (tableWord nbits w) = .ok i := by
  unfold decodeTableWord at h
  split at h
  · cases h
  · cases hdec : decode (portOfWord (tableWord nbits w)) (tableWord nbits w) with
    | ok j => rw [hdec] at h; cases h; rfl
    | error e => rw [hdec] at h; cases h

/-! ## Presenting a word -/

theorem presentWord_todo (s : State) (p : Port) (v : Word) :
    ((s.presentWord p v).host (hostOfPort p)).todo =
      (s.presentWord p v).commandWrite p v :: (s.host (hostOfPort p)).todo := by
  cases p <;> rfl

theorem presentWord_portFree (s : State) (p : Port) (v : Word) : (s.presentWord p v).portBusy p = false := by
  cases p <;> rfl

/-- With the turn used and the write done, what is left of presenting a word is that its port is free. -/
theorem presentWord_undone (s : State) (p : Port) (v : Word) :
    (s.presentWord p v).consumeTurn.setHost (hostOfPort p)
      { todo := (s.host (hostOfPort p)).todo, lastRead := ((s.presentWord p v).host (hostOfPort p)).lastRead } =
      s.idlePort p := by
  cases p <;> rfl

/-- Settles O10: the presented word meets the premises of `StepRunsDecodedCommand`, and the word is the command's encoding. -/
theorem presentedWordRunsNext : Obligations.PresentedWordRunsNext := by
  intro s nbits w i htable
  have hdec := decode_of_decodeTableWord htable
  rw [portOf_of_decode hdec, encode_of_decode hdec, State.withFetchWord, ← presentWord_undone s _ (tableWord nbits w)]
  exact stepRunsDecodedCommand _ _ _ _ _ _ rfl (presentWord_todo ..) (presentWord_portFree ..) hdec

end Sys2Proof.Machine
end

section
/-! PROOF. The decoder and the encoder undo each other (30_encoding.md R64 to R68): the fields of a command's word stand apart, so
each is read back from it, and what the fields do not cover is zero. -/

namespace Sys2Proof.Machine

/-! ## The answers of the decoder, one per check (R69 to R71) -/

section Checks
variable {p : Port} {v : Word} {o : Opcode}

theorem decode_of_reservedOp (hop : opcodeOfBits (opField v) = none) : decode p v = .error .reservedOp := by
  simp only [decode, hop]

theorem decode_of_wrongPort (hop : opcodeOfBits (opField v) = some o) (hport : opcodePort o ≠ p) :
    decode p v = .error .wrongPort := by
  simp only [decode, hop, if_pos hport]

theorem decode_of_reservedBits (hop : opcodeOfBits (opField v) = some o) (hbits : v &&& reservedMask o ≠ 0#32) :
    decode (opcodePort o) v = .error .reservedBits := by
  simp only [decode, hop, ne_eq, not_true_eq_false, if_false, if_pos hbits]

theorem decode_of_checks (hop : opcodeOfBits (opField v) = some o) (hbits : v &&& reservedMask o = 0#32) :
    decode (opcodePort o) v = .ok (assembleOperands o v) := by
  simp only [decode, hop, hbits, ne_eq, not_true_eq_false, if_false]

end Checks

/-! ## The fields of a command's word -/

theorem opcodeOfBits_opcodeBits (o : Opcode) : opcodeOfBits (opcodeBits o) = some o := by
  cases o <;> rfl

theorem opField_encode (i : Instr) : opField (encode i) = opcodeBits (opcodeOf i) := by
  cases i with
  | enable chEn bps spp cal => exact Laws.OpcodeField.enable chEn bps spp cal
  | _ => rfl

section EnableWord
variable (chEn : ChMask) (bps : BitVec 2) (spp : Nat) (cal : Bool)

theorem chEnField_encodeEnable : chEnField (encodeEnable chEn bps spp cal) = chEn := by
  simp [chEnField, encodeEnable, BitVec.extractLsb'_or, extractLsb'_placeField_self, extractLsb'_placeField_disjoint]

theorem bpsField_encodeEnable : bpsField (encodeEnable chEn bps spp cal) = bps := by
  simp [bpsField, encodeEnable, BitVec.extractLsb'_or, extractLsb'_placeField_self, extractLsb'_placeField_disjoint]

theorem sppField_encodeEnable : sppField (encodeEnable chEn bps spp cal) = spp % 8 := by
  simp [sppField, encodeEnable, BitVec.extractLsb'_or, extractLsb'_placeField_self, extractLsb'_placeField_disjoint]

theorem calField_encodeEnable : calField (encodeEnable chEn bps spp cal) = cal := by
  simp [-BitVec.getLsbD_eq_getElem, calField, encodeEnable, getLsbD_placeField_flag, getLsbD_placeField_disjoint]

end EnableWord

/-- The operands of a well-formed command are read back from its word (R67). -/
theorem assembleOperands_encode {i : Instr} (hwf : i.wellFormed = true) : assembleOperands (opcodeOf i) (encode i) = i := by
  cases i with
  | enable chEn bps spp cal =>
    have hspp : spp % 8 = spp := Nat.mod_eq_of_lt (of_decide_eq_true hwf)
    simp only [opcodeOf, assembleOperands, encode, chEnField_encodeEnable, bpsField_encodeEnable, sppField_encodeEnable,
      calField_encodeEnable, hspp]
  | _ => rfl

/-- The word of a well-formed command has no reserved bit set (R65, R66): it is what its own operands give when encoded again, and
such a word is cleared under the reserved mask. -/
theorem encode_and_reservedMask {i : Instr} (hwf : i.wellFormed = true) : encode i &&& reservedMask (opcodeOf i) = 0#32 := by
  have hclear : encode i = encode i &&& ~~~reservedMask (opcodeOf i) :=
    calc encode i = encode (assembleOperands (opcodeOf i) (encode i)) := by rw [assembleOperands_encode hwf]
      _ = encode i &&& ~~~reservedMask (opcodeOf i) := encode_assembleOperands (opField_encode i).symm
  rw [hclear, BitVec.and_assoc, BitVec.and_comm (~~~_), BitVec.and_not_self]
  exact BitVec.and_zero

/-- The decoder's operands are well-formed: SPP is read from three bits (R65). -/
theorem assembleOperands_wellFormed (o : Opcode) (v : Word) : (assembleOperands o v).wellFormed = true := by
  cases o with
  | enable => exact decide_eq_true (v.extractLsb' 20 3).isLt
  | _ => rfl

theorem wellFormed_of_decode {p : Port} {v : Word} {i : Instr} (h : decode p v = .ok i) : i.wellFormed = true := by
  unfold decode at h
  split at h
  · cases h
  · next o _ =>
    split_ifs at h
    cases h
    exact assembleOperands_wellFormed o v

/-! ## The claims -/

/-- Settles O1: the word of a well-formed command passes the three checks of the decoder, and its fields give the operands back. -/
theorem decodeEncodeAgree : Obligations.DecodeEncodeAgree := by
  intro i hwf
  have hop : opcodeOfBits (opField (encode i)) = some (opcodeOf i) := by rw [opField_encode, opcodeOfBits_opcodeBits]
  rw [portOf, decode_of_checks hop (encode_and_reservedMask hwf), assembleOperands_encode hwf]

/-- Settles O2: the checks of the decoder leave no bit of the word that its command does not determine. -/
theorem decodedWordIsEncoding : Obligations.DecodedWordIsEncoding :=
  fun _ _ _ hdec => ⟨encode_of_decode hdec, portOf_of_decode hdec, wellFormed_of_decode hdec⟩

/-- Settles O3: each word is the encoding of its command, bit for bit, and so is read back (O1). -/
theorem writtenWordsDecode : Obligations.WrittenWordsDecode :=
  ⟨decodeEncodeAgree (.enable 0x07#8 1#2 3 false) rfl, decodeEncodeAgree (.enable 0xFF#8 3#2 5 true) rfl,
    decodeEncodeAgree .disableAll rfl, decodeEncodeAgree .trigger rfl, decodeEncodeAgree .triggerPacket rfl,
    decodeEncodeAgree .read rfl, decodeEncodeAgree .readPacket rfl, decodeEncodeAgree .tryRead rfl⟩

end Sys2Proof.Machine
end

section
/-! PROOF. Words that are no command of their port (30_encoding.md R69 to R71): whichever check of the decoder fails, an unfaulted
block records the acceptance and takes the fault of that check, and executes nothing. -/

namespace Sys2Proof.Machine

/-- A rejected word raises the cause of the check it fails (R72, R73). -/
theorem acceptWord_of_decode_error {s : State} {p : Port} {v : Word} {e : DecodeError} (hf : s.faulted = false)
    (hdec : decode p v = .error e) :
    acceptWord p v s = .next ((s.record (.accept p v)).faultEnter (causeOfError e) v) := by
  have hrec : (s.record (.accept p v)).faulted = false := hf
  simp only [acceptWord, hdec, State.rejectWord, hrec, Bool.false_eq_true, if_false]

/-! ## Opcodes by their OP field (R68, R69) -/

theorem opcodeOfBits_reserved :
    ∀ op ∈ [0x0#4, 0x5#4, 0x6#4, 0x7#4, 0xB#4, 0xC#4, 0xD#4, 0xE#4, 0xF#4], opcodeOfBits op = none := by
  decide

/-- The OP values with bit 3 set are the reader port's commands, all of format BARE. -/
theorem opcodeOfBits_reader {op : BitVec 4} (h : op ∈ [0x8#4, 0x9#4, 0xA#4]) :
    ∃ o, opcodeOfBits op = some o ∧ opcodePort o = .rd ∧ reservedMask o = 0xFFFFFFF0#32 := by
  simp only [List.mem_cons, List.not_mem_nil, or_false] at h
  obtain rfl | rfl | rfl := h
  exacts [⟨.read, rfl, rfl, rfl⟩, ⟨.readPacket, rfl, rfl, rfl⟩, ⟨.tryRead, rfl, rfl, rfl⟩]

/-- The control port's commands of format BARE. -/
theorem opcodeOfBits_ctrlBare {op : BitVec 4} (h : op ∈ [0x2#4, 0x3#4, 0x4#4]) :
    ∃ o, opcodeOfBits op = some o ∧ opcodePort o = .ctrl ∧ reservedMask o = 0xFFFFFFF0#32 := by
  simp only [List.mem_cons, List.not_mem_nil, or_false] at h
  obtain rfl | rfl | rfl := h
  exacts [⟨.disableAll, rfl, rfl, rfl⟩, ⟨.trigger, rfl, rfl, rfl⟩, ⟨.triggerPacket, rfl, rfl, rfl⟩]

/-- The control port's commands: ENABLE and those of format BARE. -/
theorem opcodeOfBits_ctrl {op : BitVec 4} (h : op ∈ [0x1#4, 0x2#4, 0x3#4, 0x4#4]) :
    ∃ o, opcodeOfBits op = some o ∧ opcodePort o = .ctrl := by
  obtain rfl | hbare := List.mem_cons.mp h
  · exact ⟨.enable, rfl, rfl⟩
  · obtain ⟨o, hop, hport, _⟩ := opcodeOfBits_ctrlBare hbare
    exact ⟨o, hop, hport⟩

/-- A word with a bit set in 31:4 meets the reserved mask of format BARE (R66). -/
theorem and_bareMask_ne_zero {v : Word} (h : v >>> 4 ≠ 0#32) : v &&& 0xFFFFFFF0#32 ≠ 0#32 := by
  intro hzero
  apply h
  rw [eq_opField_of_high_bits_zero hzero]
  apply BitVec.eq_of_toNat_eq
  have := (opField v).isLt
  rw [BitVec.toNat_ushiftRight, BitVec.toNat_setWidth, Nat.shiftRight_eq_div_pow, BitVec.toNat_ofNat]
  omega

/-- A command of format BARE on its own port with a bit set in 31:4 fails the third check (R66, R71). -/
theorem acceptWord_of_bareBits {s : State} {p : Port} {v : Word} (hf : s.faulted = false)
    (hbare : ∃ o, opcodeOfBits (opField v) = some o ∧ opcodePort o = p ∧ reservedMask o = 0xFFFFFFF0#32)
    (hbits : v >>> 4 ≠ 0#32) :
    acceptWord p v s = .next ((s.record (.accept p v)).faultEnter .cmdReservedBits v) := by
  obtain ⟨o, hop, rfl, hmask⟩ := hbare
  exact acceptWord_of_decode_error (e := .reservedBits) hf (decode_of_reservedBits hop (hmask ▸ and_bareMask_ne_zero hbits))

/-! ## The claims -/

/-- Settles O4: a reserved OP fails the first check, on either port. -/
theorem reservedOpcodeFaults : Obligations.ReservedOpcodeFaults :=
  ⟨fun _ _ _ hf hop => acceptWord_of_decode_error (e := .reservedOp) hf (decode_of_reservedOp (opcodeOfBits_reserved _ hop)), rfl⟩

/-- Settles O5: a legal OP of the other port fails the second check. -/
theorem wrongPortFaults : Obligations.WrongPortFaults := by
  intro s v hf
  constructor
  · intro hop
    obtain ⟨o, ho, hport, _⟩ := opcodeOfBits_reader hop
    exact acceptWord_of_decode_error (e := .wrongPort) hf (decode_of_wrongPort ho (by rw [hport]; decide))
  · intro hop
    obtain ⟨o, ho, hport⟩ := opcodeOfBits_ctrl hop
    exact acceptWord_of_decode_error (e := .wrongPort) hf (decode_of_wrongPort ho (by rw [hport]; decide))

/-- Settles O6: a legal OP on its own port with a bit of its format's reserved mask set fails the third check. -/
theorem reservedBitsFault : Obligations.ReservedBitsFault := by
  intro s v hf
  refine ⟨fun hop hbits => ?_, fun hop => acceptWord_of_bareBits hf (opcodeOfBits_ctrlBare hop),
    fun hop => acceptWord_of_bareBits hf (opcodeOfBits_reader hop)⟩
  have henable : opcodeOfBits (opField v) = some .enable := by rw [hop]; rfl
  exact acceptWord_of_decode_error (e := .reservedBits) hf (decode_of_reservedBits henable hbits)

end Sys2Proof.Machine
end

section
/-! PROOF. The tagged form of a wire item (30_encoding.md R74, R76): the payload bits, the highest first, have the value of the low
bits they were taken from. -/

namespace Sys2Proof.Machine

theorem length_bitsDown (n : Nat) (w : Word) : (bitsDown n w).length = n := by
  simp [bitsDown]

/-- The highest payload bit comes first. -/
theorem bitsDown_succ (n : Nat) (w : Word) : bitsDown (n + 1) w = w.getLsbD n :: bitsDown n w := by
  simp only [bitsDown, List.range_succ_eq_map, List.map_cons, List.map_map]
  congr 1
  apply List.map_congr_left
  intro k _
  simp only [Function.comp_apply]
  congr 1
  omega

/-- What stands before a list of bits counts for two to its length. -/
theorem foldl_bits (bs : List Bool) (acc : Nat) :
    bs.foldl (fun acc b => 2 * acc + b.toNat) acc = acc * 2 ^ bs.length + bitsValue bs := by
  induction bs generalizing acc with
  | nil => simp [bitsValue]
  | cons b bs ih =>
    rw [bitsValue, List.foldl_cons, List.foldl_cons, ih, ih, List.length_cons]
    ring

theorem bitsValue_cons (b : Bool) (bs : List Bool) : bitsValue (b :: bs) = b.toNat * 2 ^ bs.length + bitsValue bs := by
  rw [bitsValue, List.foldl_cons, foldl_bits, Nat.mul_zero, Nat.zero_add]

/-- The bits of a word from `n - 1` down have the value of its low `n` bits. -/
theorem bitsValue_bitsDown (n : Nat) (w : Word) : bitsValue (bitsDown n w) = w.toNat % 2 ^ n := by
  induction n with
  | zero => simp [bitsDown, bitsValue, Nat.mod_one]
  | succ n ih =>
    rw [bitsDown_succ, bitsValue_cons, length_bitsDown, ih, BitVec.getLsbD, Nat.toNat_testBit, Nat.mod_pow_succ]
    ring

/-- Settles O7: the payload has the length its kind of item has, and the value of the bits it was taken from. -/
theorem taggedItemsReadBack : Obligations.TaggedItemsReadBack := by
  intro w x _ hwf
  cases x with
  | data d =>
    have hfit : d.toNat % 2 ^ w = d.toNat := Nat.mod_eq_of_lt (of_decide_eq_true hwf)
    rw [tagItem, untagItem, if_pos (length_bitsDown w d), bitsValue_bitsDown, hfit, BitVec.ofNat_toNat, BitVec.setWidth_eq]
  | ctrl code =>
    have hcode : BitVec.ofNat 8 ((code.setWidth 32).toNat % 2 ^ 8) = code := by
      apply BitVec.eq_of_toNat_eq
      have := code.isLt
      simp only [BitVec.toNat_setWidth, BitVec.toNat_ofNat]
      omega
    rw [tagItem, untagItem, if_pos (length_bitsDown 8 _), bitsValue_bitsDown, hcode]

end Sys2Proof.Machine
end

section
/-! PROOF. The assembler's ENABLE (30_encoding.md R77): which operands it refuses, and the word of the others as a sum, field by
field from the lowest. -/

namespace Sys2Proof.Machine

/-! ## The word of ENABLE as a number (R65) -/

/-- A field placed above a word that ends below it adds its value at its place. -/
theorem toNat_or_placeField {n pos : Nat} {low : Word} (v : BitVec n) (hlow : low.toNat < 2 ^ pos) (hfit : pos + n ≤ 32) :
    (low ||| placeField n pos v).toNat = low.toNat + v.toNat * 2 ^ pos := by
  have hv : v.toNat * 2 ^ pos < 2 ^ 32 :=
    calc v.toNat * 2 ^ pos < 2 ^ n * 2 ^ pos := Nat.mul_lt_mul_of_pos_right v.isLt (by positivity)
      _ = 2 ^ (pos + n) := by rw [← pow_add, Nat.add_comm]
      _ ≤ 2 ^ 32 := Nat.pow_le_pow_right (by decide) hfit
  have hplace : (placeField n pos v).toNat = v.toNat <<< pos := by
    rw [placeField, BitVec.toNat_shiftLeft, BitVec.toNat_setWidth_of_le (by omega), Nat.shiftLeft_eq, Nat.mod_eq_of_lt hv]
  rw [BitVec.toNat_or, hplace, Nat.or_comm, ← Nat.shiftLeft_add_eq_or_of_lt hlow, Nat.shiftLeft_eq, Nat.add_comm]

/-- `0x1 | mask<<8 | code<<16 | n<<20 | cal<<24` (R77). -/
theorem toNat_encodeEnable (chEn : ChMask) (bps : BitVec 2) (spp : Nat) (cal : Bool) :
    (encodeEnable chEn bps spp cal).toNat =
      1 + chEn.toNat * 2 ^ 8 + bps.toNat * 2 ^ 16 + spp % 8 * 2 ^ 20 + cal.toNat * 2 ^ 24 := by
  have hop : (placeField 4 0 (opcodeBits .enable)).toNat = 1 := rfl
  have hchLt := chEn.isLt
  have hbpsLt := bps.isLt
  have hsppLt := (BitVec.ofNat 3 spp).isLt
  have hch := toNat_or_placeField (low := placeField 4 0 (opcodeBits .enable)) (pos := 8) chEn (by omega) (by omega)
  have hbps := toNat_or_placeField (low := _ ||| placeField 8 8 chEn) (pos := 16) bps (by rw [hch]; omega) (by omega)
  have hspp := toNat_or_placeField (low := _ ||| placeField 2 16 bps) (pos := 20) (BitVec.ofNat 3 spp)
    (by rw [hbps]; omega) (by omega)
  have hcal := toNat_or_placeField (low := _ ||| placeField 3 20 (BitVec.ofNat 3 spp)) (pos := 24) (BitVec.ofBool cal)
    (by rw [hspp]; omega) (by omega)
  rw [encodeEnable, hcal, hspp, hbps, hch, hop, BitVec.toNat_ofNat, BitVec.toNat_ofBool]

/-! ## What the assembler takes (R77) -/

theorem bpsCodeOfBits_eq_none {bps : Nat} (h : bps ∉ [8, 16, 32]) : bpsCodeOfBits bps = none := by
  simp only [List.mem_cons, List.not_mem_nil, or_false, not_or] at h
  obtain ⟨h8, h16, h32⟩ := h
  simp only [bpsCodeOfBits, if_neg h8, if_neg h16, if_neg h32]

theorem bpsCodeOfBits_row {row : Nat × Nat} (h : row ∈ [(8, 0), (16, 1), (32, 3)]) :
    ∃ code, bpsCodeOfBits row.1 = some code ∧ code.toNat = row.2 := by
  simp only [List.mem_cons, List.not_mem_nil, or_false] at h
  obtain rfl | rfl | rfl := h
  exacts [⟨0#2, rfl, rfl⟩, ⟨1#2, rfl, rfl⟩, ⟨3#2, rfl, rfl⟩]

/-- What the assembler's ENABLE answers when it answers, and for which operands it does. -/
theorem assembleEnable_eq_some_iff {ch bps spp cal : Nat} {i : Instr} :
    assembleEnable ch bps spp cal = some i ↔
      ∃ code, bpsCodeOfBits bps = some code ∧ (ch ≤ 0xFF ∧ spp ≤ 7 ∧ cal ≤ 1) ∧
        .enable (BitVec.ofNat 8 ch) code spp (decide (cal = 1)) = i := by
  unfold assembleEnable
  cases bpsCodeOfBits bps <;> simp

/-- Settles O8: the assembler answers for operands inside their fields only, and its answer's word is the sum of the placed fields. -/
theorem assembledEnableWord : Obligations.AssembledEnableWord := by
  intro ch bps spp cal row hrow
  constructor
  · intro hout
    rw [Option.eq_none_iff_forall_ne_some]
    intro i hi
    obtain ⟨code, hcode, hin, _⟩ := assembleEnable_eq_some_iff.mp hi
    obtain hbps | hrest := hout
    · rw [bpsCodeOfBits_eq_none hbps] at hcode
      cases hcode
    · omega
  · rintro rfl hch hspp hcal
    obtain ⟨code, hcode, hval⟩ := bpsCodeOfBits_row hrow
    refine ⟨_, assembleEnable_eq_some_iff.mpr ⟨code, hcode, ⟨hch, hspp, hcal⟩, rfl⟩, ?_⟩
    have hflag : (decide (cal = 1)).toNat = cal := by
      obtain rfl | rfl := Nat.le_one_iff_eq_zero_or_eq_one.mp hcal <;> rfl
    rw [encode, toNat_encodeEnable, hval, hflag, BitVec.toNat_ofNat, Nat.mod_eq_of_lt (by omega : ch < 2 ^ 8),
      Nat.mod_eq_of_lt (by omega : spp < 8)]

end Sys2Proof.Machine
end

section
/-! PROOF. ENABLE and DISABLE_ALL (41_enable_calibration.md R79 to R90, 60_exceptions.md R134): which configurations are valid,
what CONFIG latches, and that DISABLE_ALL is a power-down in every case, so a fault before it shows in FAULT and FAULT_CMD only. -/

namespace Sys2Proof.Machine

/-! ## Validation (R79) -/

section Validate
variable {ch : ChMask} {bps : BitVec 2} {spp : Nat}

theorem validate_of_illegal_spp (h : spp < 1 ∨ min 5 (popcount ch) < spp) : validate ch bps spp = some .cfgSpp :=
  if_pos h

theorem validate_of_legal_spp (hpos : 1 ≤ spp) (hle : spp ≤ min 5 (popcount ch)) :
    validate ch bps spp = if bps = 2#2 then some .cfgBps else none :=
  if_neg (not_or.mpr ⟨Nat.not_lt.mpr hpos, Nat.not_lt.mpr hle⟩)

theorem validate_of_legal (hpos : 1 ≤ spp) (hle : spp ≤ min 5 (popcount ch)) (hbps : bps ≠ 2#2) :
    validate ch bps spp = none := by
  rw [validate_of_legal_spp hpos hle, if_neg hbps]

/-- The values of FAULT a failed validation gives (R45, R119). -/
theorem faultWord_of_validate {c : Cause} (hv : validate ch bps spp = some c) :
    faultWord c 0#32 = 0x402#32 ∨ faultWord c 0#32 = 0x502#32 := by
  obtain rfl | rfl := validate_cause hv
  · exact .inr (by decide)
  · exact .inl (by decide)

end Validate

/-! ## Outstanding work (R39) -/

theorem dataCount_pos_iff {fifo : List WireItem} : 0 < dataCount fifo ↔ ∃ w, .data w ∈ fifo := by
  rw [dataCount, List.countP_pos_iff]
  constructor
  · rintro ⟨x, hx, hdata⟩
    cases x with
    | data w => exact ⟨w, hx⟩
    | ctrl c => cases hdata
  · rintro ⟨w, hw⟩
    exact ⟨.data w, hw, rfl⟩

/-- Tokens alone hold no sample. -/
theorem dataCount_of_tokens {fifo : List WireItem} (h : ∀ x ∈ fifo, ∃ c, x = .ctrl c) : dataCount fifo = 0 := by
  by_contra hne
  obtain ⟨w, hw⟩ := dataCount_pos_iff.mp (Nat.pos_of_ne_zero hne)
  obtain ⟨c, hc⟩ := h _ hw
  cases hc

theorem outstanding_eq_true {s : State} :
    s.outstanding = true ↔ 0 < dataCount s.fifo ∨ s.pend ≠ 0#3 ∨ s.rdBusy = true := by
  simp only [State.outstanding, Bool.or_eq_true, decide_eq_true_eq, or_assoc]

/-! ## What CONFIG latches (R81) -/

/-- CONFIG is the word of ENABLE without its opcode: the reserved bits are zero already (R65). -/
theorem encode_enable_eq_latched_add_one {ch : ChMask} {bps : BitVec 2} {spp : Nat} {cal : Bool} (hspp : spp < 8) :
    encode (.enable ch bps spp cal) = latchedConfig (encode (.enable ch bps spp cal)) + 1#32 := by
  set v := encode (.enable ch bps spp cal)
  have hop : v &&& 0x0000000F#32 = 1#32 :=
    calc v &&& 0x0000000F#32 = placeField 4 0 (opField v) := (placeField_extractLsb' 4 0 v).symm
      _ = 1#32 := by rw [opField_encode]; rfl
  have hreserved : v &&& reservedMask .enable = 0#32 :=
    encode_and_reservedMask (i := .enable ch bps spp cal) (decide_eq_true hspp)
  have hdisjoint : latchedConfig v &&& 1#32 = 0#32 := by
    rw [latchedConfig, BitVec.and_assoc]
    exact BitVec.and_zero
  calc v = v &&& (configFieldMask ||| 0x0000000F#32 ||| reservedMask .enable) := (BitVec.and_allOnes (x := v)).symm
    _ = latchedConfig v ||| 1#32 := by
      rw [BitVec.and_or_distrib_left, BitVec.and_or_distrib_left, hop, hreserved, BitVec.or_zero, latchedConfig]
    _ = latchedConfig v + 1#32 := (BitVec.add_eq_or_of_and_eq_zero _ _ hdisjoint).symm

/-- The latched fields as a sum, each at its place (R28, R81). -/
theorem latchedConfig_encode_enable {ch : ChMask} {bps : BitVec 2} {spp : Nat} {cal : Bool} (hspp : spp < 8) :
    latchedConfig (encode (.enable ch bps spp cal)) =
      BitVec.ofNat 32 (ch.toNat * 2 ^ 8 + bps.toNat * 2 ^ 16 + spp * 2 ^ 20 + cal.toNat * 2 ^ 24) := by
  have hsum : ch.toNat * 2 ^ 8 + bps.toNat * 2 ^ 16 + spp * 2 ^ 20 + cal.toNat * 2 ^ 24 + 1 =
      (encode (.enable ch bps spp cal)).toNat := by
    rw [encode, toNat_encodeEnable, Nat.mod_eq_of_lt hspp]
    omega
  rw [← BitVec.add_left_inj 1#32, ← encode_enable_eq_latched_add_one hspp, BitVec.ofNat_add_ofNat, hsum,
    BitVec.ofNat_toNat, BitVec.setWidth_eq]

/-! ## What the two commands do, case by case (R80 to R88) -/

/-- No command is dropped while the block is not faulted (R72). -/
theorem exec_of_not_faulted {s : State} (hf : s.faulted = false) (i : Instr) : exec i s = .next (commandBody i s) := by
  by_cases hi : i = .disableAll
  · subst hi
    exact exec_disableAll s
  · rw [exec_of_ne_disableAll hi, State.unlessFaulted, hf]
    rfl

section Enable
variable {ch : ChMask} {bps : BitVec 2} {spp : Nat} {cal : Bool} {s : State}

theorem enable_of_invalid {c : Cause} (hv : validate ch bps spp = some c) :
    commandBody (.enable ch bps spp cal) s = s.faultEnter c (encode (.enable ch bps spp cal)) := by
  rw [commandBody, State.enableBody, hv]

theorem enable_of_outstanding (hv : validate ch bps spp = none) (hwork : s.outstanding = true) :
    commandBody (.enable ch bps spp cal) s = s.faultEnter .seqBusy (encode (.enable ch bps spp cal)) := by
  simp only [commandBody, State.enableBody, hv, hwork, if_true]

theorem enable_of_idle (hv : validate ch bps spp = none) (hidle : s.outstanding = false) :
    commandBody (.enable ch bps spp cal) s = (s.programConfig (encode (.enable ch bps spp cal)) ch).calibrate := by
  simp only [commandBody, State.enableBody, hv, hidle, Bool.false_eq_true, if_false]

end Enable

section DisableAll
variable {s : State}

theorem disableAll_of_faulted_or_idle (h : s.faulted = true ∨ s.outstanding = false) :
    commandBody .disableAll s = s.powerDown := by
  obtain hf | hidle := h
  · simp [commandBody, hf]
  · simp [commandBody, hidle]

theorem disableAll_of_outstanding (hf : s.faulted = false) (hwork : s.outstanding = true) :
    commandBody .disableAll s = (s.faultEnter .seqBusy (encode .disableAll)).powerDown := by
  simp [commandBody, hf, hwork]

/-- DISABLE_ALL ends in the power-down, of the state itself or of the state with SEQ_BUSY entered (R87, R88). -/
theorem disableAll_cases (s : State) :
    commandBody .disableAll s = s.powerDown ∨
    (s.faulted = false ∧ commandBody .disableAll s = (s.faultEnter .seqBusy (encode .disableAll)).powerDown) := by
  cases hf : s.faulted
  · cases hwork : s.outstanding
    · exact .inl (disableAll_of_faulted_or_idle (.inr hwork))
    · exact .inr ⟨rfl, disableAll_of_outstanding hf hwork⟩
  · exact .inl (disableAll_of_faulted_or_idle (.inl hf))

theorem powerDown_outstanding (s : State) : s.powerDown.outstanding = false :=
  outstanding_eq_false.mpr ⟨rfl, rfl, rfl⟩

/-- Nothing is left for a second DISABLE_ALL: no work is outstanding, and the constants are written already (R89). -/
theorem disableAll_powerDown (s : State) : commandBody .disableAll s.powerDown = s.powerDown :=
  disableAll_of_faulted_or_idle (.inr (powerDown_outstanding s))

/-- R134 in a well-behaved state: what the power-down does not write is at its reset value because the control port is free. -/
theorem powerDown_eq_reset (h : s.WellBehaved) (hfree : s.ctrlBusy = false) :
    s.powerDown = { State.reset with
      sample := s.sample, rdValid := s.rdValid, pktBuf := s.pktBuf, pulseCount := s.pulseCount
      fault := s.fault, faultCmd := s.faultCmd, history := s.history, params := s.params, env := s.env } := by
  have hrem : s.tpRem = 0#3 := h.tpRem_eq_zero hfree
  have hop : s.ctrlOp = .none := by
    cases hop : s.ctrlOp with
    | none => rfl
    | triggerPacket => exact absurd (hfree.symm.trans (h.ctrlPort.2.1.mpr hop)) nofun
  have htrig : s.trig = false := h.history.2.1
  simp only [State.powerDown, State.reset, hrem, hop, htrig, hfree]

/-- The same of DISABLE_ALL, whose SEQ_BUSY changes FAULT, FAULT_CMD and the history only (R88, R134). -/
theorem disableAll_eq_reset (h : s.WellBehaved) (hfree : s.ctrlBusy = false) :
    commandBody .disableAll s = { State.reset with
      sample := s.sample, rdValid := s.rdValid, pktBuf := s.pktBuf, pulseCount := s.pulseCount
      fault := (commandBody .disableAll s).fault, faultCmd := (commandBody .disableAll s).faultCmd
      history := (commandBody .disableAll s).history, params := s.params, env := s.env } := by
  obtain ht | ⟨hf, ht⟩ := disableAll_cases s <;> rw [ht]
  · exact powerDown_eq_reset h hfree
  · exact powerDown_eq_reset (h.faultEnter hf (by decide) _) rfl

end DisableAll

/-! ## The claims -/

/-- Settles O21: each clause is the check that decides it. -/
theorem validationOrder : Obligations.ValidationOrder := by
  intro ch bps spp count
  refine ⟨validate_of_illegal_spp, ?reserved, ?legal, ?never⟩
  case reserved =>
    rintro ⟨hpos, hle, hbps⟩
    rw [validate_of_legal_spp hpos hle, if_pos hbps]
  case legal =>
    rintro ⟨hpos, hle, hbps⟩
    exact validate_of_legal hpos hle (by obtain rfl | rfl | rfl := hbps <;> decide)
  case never =>
    intro h
    apply validate_of_illegal_spp
    obtain rfl | hspp := h
    · have hempty : popcount 0#8 = 0 := by decide
      omega
    · omega

/-- Settles O22: the first case of ENABLE; the fault entry leaves the five elements as they are. -/
theorem invalidEnableOnlyFaults : Obligations.InvalidEnableOnlyFaults := by
  intro ch bps spp cal c s hf hv
  refine ⟨_, exec_of_not_faulted hf _, enable_of_invalid hv, ?_⟩
  rw [enable_of_invalid hv]
  exact ⟨rfl, rfl, rfl, rfl, rfl⟩

/-- Settles O23: the second case of ENABLE. -/
theorem busyEnableFaults : Obligations.BusyEnableFaults := by
  intro ch bps spp cal s hf hv hwork
  rw [exec_of_not_faulted hf, enable_of_outstanding hv (outstanding_eq_true.mpr (hwork.imp_left dataCount_pos_iff.mpr))]

/-- Settles O24: the third case of ENABLE, with the lowest channel, the latched fields and the pulses written out. -/
theorem enableProgramsAndCalibrates : Obligations.EnableProgramsAndCalibrates := by
  intro ch bps spp cal s hf hpos hle hbps htokens hpend hfree
  have hcount : 1 ≤ popcount ch := hpos.trans (hle.trans (min_le_right _ _))
  have hspp : spp < 8 := (hle.trans (min_le_left _ _)).trans_lt (by decide)
  have hidle : s.outstanding = false := outstanding_eq_false.mpr ⟨dataCount_of_tokens htokens, hpend, hfree⟩
  refine ⟨lowestSet ch, lowestSet_is_set hcount, fun j hj => ?_, ?_⟩
  · exact Bool.eq_false_iff.mpr fun hset => absurd (lowestSet_le_of_set hset) (Nat.not_le.mpr hj)
  · rw [exec_of_not_faulted hf, enable_of_idle (validate_of_legal hpos hle hbps) hidle, calibrate_eq, State.programConfig,
      latchedConfig_encode_enable hspp]

/-- Settles O25: the power-down itself, and with the invariant the reset values of what it does not write. -/
theorem disableAllPowersDown : Obligations.DisableAllPowersDown := by
  intro s
  refine ⟨fun h => ?_, fun h hfree => ⟨_, exec_disableAll s, disableAll_eq_reset h hfree⟩⟩
  rw [exec_disableAll, disableAll_of_faulted_or_idle h, State.powerDown]

/-- Settles O26: the power-down of the state with SEQ_BUSY entered. -/
theorem busyDisableAllFaultsAndPowersDown : Obligations.BusyDisableAllFaultsAndPowersDown := by
  intro s hf hwork
  have hword : encode .disableAll = 0x00000002#32 := by decide
  rw [exec_disableAll, disableAll_of_outstanding hf (outstanding_eq_true.mpr hwork), hword, State.powerDown]

/-- Settles O27: whichever state is powered down, a second DISABLE_ALL finds it powered down. -/
theorem disableAllIdempotent : Obligations.DisableAllIdempotent := by
  intro s
  obtain ⟨x, hx⟩ : ∃ x : State, commandBody .disableAll s = x.powerDown := by
    obtain ht | ⟨-, ht⟩ := disableAll_cases s
    · exact ⟨_, ht⟩
    · exact ⟨_, ht⟩
  refine ⟨x.powerDown, ?_, ?_, rfl, rfl, rfl, rfl, rfl, rfl, rfl, rfl⟩
  · rw [exec_disableAll, hx]
  · rw [exec_disableAll, disableAll_powerDown]

/-- Settles O28: after either way the block is at its reset values but for the survivors, and the failed ENABLE changed none of
those but FAULT and FAULT_CMD; the first fault entered is the one that FAULT keeps. -/
theorem failedEnableInvisibleToDisable : Obligations.FailedEnableInvisibleToDisable := by
  intro ch bps spp cal s h hf hfree hv
  obtain ⟨c, hc⟩ := Option.ne_none_iff_exists'.mp hv
  set t := s.faultEnter c (encode (.enable ch bps spp cal)) with ht
  have hfaulted : t.faulted = true := faultEnter_faulted s c _
  have hexec : exec (.enable ch bps spp cal) s = .next t := by rw [exec_of_not_faulted hf, enable_of_invalid hc]
  have hlegal : faultWord c 0#32 ∈ legalFaultWords := by
    obtain hw | hw := faultWord_of_validate hc <;> rw [hw] <;> decide
  refine ⟨t, _, _, hexec, exec_disableAll t, exec_disableAll s, ?same, fun hwork => ⟨?first, ?second⟩⟩
  case same =>
    have hafter := disableAll_eq_reset (h.faultEnter hf hlegal (encode (.enable ch bps spp cal))) rfl
    rw [disableAll_eq_reset h hfree]
    exact hafter
  case first =>
    rw [disableAll_of_faulted_or_idle (.inl hfaulted), State.powerDown_fault, ht, State.faultEnter_fault, h.fault_eq_zero hf]
    exact faultWord_of_validate hc
  case second =>
    rw [disableAll_of_outstanding hf hwork, State.powerDown_fault, State.faultEnter_fault, h.fault_eq_zero hf]
    decide

end Sys2Proof.Machine
end

section
/-! PROOF. TRIGGER, TRIGGER_PACKET and CTRL_SEQ (42_trigger.md R93 to R98): what each does in each of its cases, and by induction
over the pulses still to come that a TRIGGER_PACKET with room issues all of them. -/

namespace Sys2Proof.Machine

/-! ## A sampling pulse below the ceiling (R93) -/

/-- The state after a sampling pulse below the ceiling, written out. -/
theorem queuePulse_frame (s : State) :
    s.queuePulse =
      { s with
        trig := false, pulseCount := s.pulseCount + 1#32, pend := s.pend + 1#3, history := .pulse .sample :: s.history } := rfl

/-- Below the ceiling PEND does not wrap, so the pulse raises the occupancy by one (R34). -/
theorem queuePulse_occ {s : State} (hocc : s.occ < 5) : s.queuePulse.occ = s.occ + 1 := by
  have hpend : (s.pend + 1#3).toNat = s.pend.toNat + 1 :=
    toNat_add_one_of_lt (Nat.lt_of_le_of_lt (Nat.le_add_left _ _) hocc) (by decide)
  calc s.queuePulse.occ = dataCount s.fifo + (s.pend + 1#3).toNat := rfl
    _ = s.occ + 1 := by rw [hpend, State.occ, Nat.add_assoc]

/-! ## TRIGGER (R94) and the accepting step of TRIGGER_PACKET (R96) -/

/-- S as a 3-bit value is the SPP field of CONFIG (R16, R28). -/
theorem ofNat_spp (s : State) : BitVec.ofNat 3 s.spp = s.config.extractLsb' 20 3 := by
  rw [State.spp, sppField, BitVec.ofNat_toNat, BitVec.setWidth_eq]

section Commands
variable {s : State} {word : Word}

theorem triggerBody_of_room (hen : s.enabled = true) (hocc : s.occ < 5) : s.triggerBody word = s.queuePulse := by
  obtain ⟨hdis, -⟩ | ⟨-, hfull, -⟩ | ⟨-, -, h⟩ := triggerBody_cases s word
  · exact absurd (hen.symm.trans hdis) nofun
  · omega
  · exact h

theorem triggerBody_of_full (hen : s.enabled = true) (hocc : 5 ≤ s.occ) :
    s.triggerBody word = (s.pulse .sample).faultEnter .overrun word := by
  obtain ⟨hdis, -⟩ | ⟨-, -, h⟩ | ⟨-, hroom, -⟩ := triggerBody_cases s word
  · exact absurd (hen.symm.trans hdis) nofun
  · exact h
  · omega

/-- TP_REM takes the SPP field of CONFIG as it stands there. -/
theorem triggerPacketBody_of_enabled (hen : s.enabled = true) :
    s.triggerPacketBody word =
      { s with ctrlOp := .triggerPacket, ctrlWord := word, tpRem := s.config.extractLsb' 20 3, ctrlBusy := true } := by
  rw [State.triggerPacketBody, if_pos hen, ofNat_spp]

end Commands

/-! ## The CTRL_SEQ step, case by case (R97) -/

section CtrlSeq
variable {s : State}

theorem ctrlSeqStep_of_full (hocc : 5 ≤ s.occ) :
    s.ctrlSeqStep = (s.pulse .sample).faultEnter .overrun s.ctrlWord := by
  obtain ⟨-, h⟩ | ⟨hroom, -⟩ | ⟨hroom, -⟩ := ctrlSeqStep_cases s
  · exact h
  · omega
  · omega

/-- The last pulse leaves the port idle. -/
theorem ctrlSeqStep_of_last (hocc : s.occ < 5) (hrem : s.tpRem = 1#3) : s.ctrlSeqStep = (s.idlePort .ctrl).queuePulse := by
  obtain ⟨hfull, -⟩ | ⟨-, -, h⟩ | ⟨-, hmore, -⟩ := ctrlSeqStep_cases s
  · omega
  · exact h
  · exact absurd (by rw [hrem]; rfl) hmore

/-- Any other pulse below the ceiling only counts TP_REM down. -/
theorem ctrlSeqStep_of_more (hocc : s.occ < 5) (hrem : s.tpRem ≠ 1#3) :
    s.ctrlSeqStep = ({ s with tpRem := s.tpRem - 1#3 }).queuePulse := by
  obtain ⟨hfull, -⟩ | ⟨-, hlast, -⟩ | ⟨-, -, h⟩ := ctrlSeqStep_cases s
  · omega
  · exact absurd (by bv_omega) hrem
  · exact h

end CtrlSeq

/-! ## All the pulses of a TRIGGER_PACKET (R98) -/

/-- One counted now and `n` later are `n + 1` counted, at every width. -/
theorem add_one_add_ofNat {w : Nat} (x : BitVec w) (n : Nat) : x + 1#w + BitVec.ofNat w n = x + BitVec.ofNat w (n + 1) := by
  rw [BitVec.add_assoc, Nat.add_comm n 1, BitVec.ofNat_add]

/-- With room for them all, `n + 1` CTRL_SEQ steps perform the `n + 1` pulses that TP_REM says are still to come. -/
theorem afterCtrlSeq_of_room (n : Nat) (s : State) (hrem : s.tpRem = BitVec.ofNat 3 (n + 1)) (hroom : s.occ + (n + 1) ≤ 5) :
    s.afterCtrlSeq (n + 1) =
      { s with
        trig := false, pulseCount := s.pulseCount + BitVec.ofNat 32 (n + 1), pend := s.pend + BitVec.ofNat 3 (n + 1)
        ctrlBusy := false, ctrlOp := .none, tpRem := 0#3
        history := List.replicate (n + 1) (.pulse .sample) ++ s.history } := by
  have hocc : s.occ < 5 := by omega
  induction n generalizing s with
  | zero =>
    rw [State.afterCtrlSeq, ctrlSeqStep_of_last hocc hrem]
    rfl
  | succ n ih =>
    have hmore : s.tpRem ≠ 1#3 := by
      rw [hrem]
      bv_omega
    have hnext : s.tpRem - 1#3 = BitVec.ofNat 3 (n + 1) := by
      rw [hrem]
      bv_omega
    have hraised : ({ s with tpRem := s.tpRem - 1#3 }).queuePulse.occ = s.occ + 1 :=
      queuePulse_occ (s := { s with tpRem := s.tpRem - 1#3 }) hocc
    rw [State.afterCtrlSeq, ctrlSeqStep_of_more hocc hmore, ih _ hnext (by omega) (by omega), queuePulse_frame]
    dsimp only
    rw [add_one_add_ofNat, add_one_add_ofNat, List.append_cons, ← List.replicate_succ']

/-! ## The claims -/

/-- Settles O29: TRIGGER with room is a queued pulse. -/
theorem triggerQueuesConversion : Obligations.TriggerQueuesConversion := by
  intro s hf hen hocc
  rw [exec_of_not_faulted hf, commandBody, triggerBody_of_room hen hocc, queuePulse_frame]

/-- Settles O30: TRIGGER without room is a pulse and the fault, with the command's own word. -/
theorem triggerAtCeilingOverruns : Obligations.TriggerAtCeilingOverruns := by
  intro s hf hen hocc
  have hword : encode .trigger = 0x00000003#32 := by decide
  rw [exec_of_not_faulted hf, commandBody, triggerBody_of_full hen hocc, hword, pulse_eq]

/-- Settles O31: the accepting step of an enabled block, with the command's own word. -/
theorem triggerPacketStarts : Obligations.TriggerPacketStarts := by
  intro s hf hen
  have hword : encode .triggerPacket = 0x00000004#32 := by decide
  rw [exec_of_not_faulted hf, commandBody, triggerPacketBody_of_enabled hen, hword]

/-- Settles O32: below the ceiling the last pulse and the others differ in the port they leave. -/
theorem ctrlSeqStepPulses : Obligations.CtrlSeqStepPulses := by
  intro s
  refine ⟨?enabled, fun hocc => ?room, fun hocc => ?full⟩
  case enabled => simp only [State.agentEnabled, State.ctrlSeqEnabled, Bool.and_eq_true, Bool.not_eq_true']
  case room =>
    rw [agentStep]
    by_cases hrem : s.tpRem = 1#3
    · rw [ctrlSeqStep_of_last hocc hrem, if_pos hrem, if_pos hrem, hrem]
      rfl
    · rw [ctrlSeqStep_of_more hocc hrem, if_neg hrem, if_neg hrem]
      rfl
  case full => rw [agentStep, ctrlSeqStep_of_full hocc, pulse_eq]

/-- Settles O33: TRIGGER_PACKET puts S in TP_REM, and its S pulses are the ones still to come. -/
theorem triggerPacketIssuesItsPulses : Obligations.TriggerPacketIssuesItsPulses := by
  intro s hf hen hpos hroom
  obtain ⟨n, hn⟩ : ∃ n, s.spp = n + 1 := Nat.exists_eq_add_one.mpr hpos
  have hrem : s.config.extractLsb' 20 3 = BitVec.ofNat 3 (n + 1) := by rw [← hn, ofNat_spp]
  rw [hn] at hroom ⊢
  rw [State.after, triggerPacketStarts s hf hen, outcomeState]
  exact afterCtrlSeq_of_room n _ hrem hroom

end Sys2Proof.Machine
end

section
/-! PROOF. The values and the channels of a conversion (43_packet_channel.md R103, R104): `justify` is a division or a
multiplication by a power of two, and the channel pointer walks the ascending list of the set bits, one place at a time. -/

namespace Sys2Proof.Machine

/-! ## Justification (R103) -/

/-- Narrowing a raw value of `res` bits to `w` bits keeps its top `w` bits. -/
theorem justify_toNat_of_le {res w : Nat} {raw : Word} (hres : res ≤ 32) (hle : w ≤ res) :
    (justify res w raw).toNat = raw.toNat % 2 ^ res / 2 ^ (res - w) := by
  have hfit : raw.toNat % 2 ^ res % 2 ^ 32 = raw.toNat % 2 ^ res :=
    Nat.mod_eq_of_lt ((Nat.mod_lt _ (by positivity)).trans_le (Nat.pow_le_pow_right (by decide) hres))
  rw [justify, if_pos hle, BitVec.toNat_ushiftRight, Nat.shiftRight_eq_div_pow, lowBits_toNat, hfit]

/-- Widening it appends `w - res` zeros, and nothing is lost in a container that holds `w` bits. -/
theorem justify_toNat_of_lt {res w : Nat} {raw : Word} (hw : w ≤ 32) (hlt : res < w) :
    (justify res w raw).toNat = raw.toNat % 2 ^ res * 2 ^ (w - res) := by
  have hfit : raw.toNat % 2 ^ res % 2 ^ 32 = raw.toNat % 2 ^ res :=
    Nat.mod_eq_of_lt ((Nat.mod_lt _ (by positivity)).trans_le (Nat.pow_le_pow_right (by decide) (by omega)))
  have hscaled : raw.toNat % 2 ^ res * 2 ^ (w - res) < 2 ^ 32 :=
    calc raw.toNat % 2 ^ res * 2 ^ (w - res) < 2 ^ res * 2 ^ (w - res) :=
          Nat.mul_lt_mul_of_pos_right (Nat.mod_lt _ (by positivity)) (by positivity)
      _ = 2 ^ w := by rw [← pow_add, Nat.add_sub_cancel' hlt.le]
      _ ≤ 2 ^ 32 := Nat.pow_le_pow_right (by decide) hw
  rw [justify, if_neg (Nat.not_le.mpr hlt), BitVec.toNat_shiftLeft, Nat.shiftLeft_eq, lowBits_toNat, hfit,
    Nat.mod_eq_of_lt hscaled]

/-- Settles O34: the common power of two cancels, on whichever side of ADC_RES the width lies. -/
theorem justifyScales : Obligations.JustifyScales := by
  intro res w raw _ hres hw
  have hw32 : w ≤ 32 := by
    simp only [List.mem_cons, List.not_mem_nil, or_false] at hw
    omega
  obtain hle | hlt := le_or_gt w res
  · have hsplit : 2 ^ res = 2 ^ (res - w) * 2 ^ w := by rw [← pow_add, Nat.sub_add_cancel hle]
    rw [justify_toNat_of_le hres hle]
    conv_rhs => rw [hsplit, Nat.mul_div_mul_right _ _ (by positivity), ← hsplit]
  · have hsplit : 2 ^ w = 2 ^ (w - res) * 2 ^ res := by rw [← pow_add, Nat.sub_add_cancel hlt.le]
    rw [justify_toNat_of_lt hw32 hlt, hsplit, ← Nat.mul_assoc, Nat.mul_div_cancel _ (by positivity)]

/-! ## The rotation of the channel pointer (R30, R104) -/

/-- The set bits are listed in ascending order, so their places compare as they do. -/
theorem enabledChannels_getElem_lt_iff {m : ChMask} {a b : Nat} {ha : a < (enabledChannels m).length}
    {hb : b < (enabledChannels m).length} : (enabledChannels m)[a] < (enabledChannels m)[b] ↔ a < b :=
  (enabledChannels_ascending m).sortedLT.getElem_lt_getElem_iff

/-- Every set bit stands at a place of the list. -/
theorem exists_getElem_of_set {m : ChMask} {i : BitVec 3} (h : m.getLsbD i.toNat = true) :
    ∃ (a : Nat) (ha : a < (enabledChannels m).length), (enabledChannels m)[a] = i.toNat :=
  List.getElem_of_mem (mem_enabledChannels_of_set h)

theorem getElem_is_set {m : ChMask} {a : Nat} (ha : a < (enabledChannels m).length) :
    m.getLsbD (enabledChannels m)[a] = true :=
  (mem_enabledChannels.mp (List.getElem_mem ha)).2

/-- The lowest set bit is the first of the list. -/
theorem lowestSet_toNat {m : ChMask} (h : 0 < (enabledChannels m).length) :
    (lowestSet m).toNat = (enabledChannels m)[0] := by
  obtain ⟨a, ha, hval⟩ := exists_getElem_of_set (lowestSet_is_set (m := m) h)
  have hle : (lowestSet m).toNat ≤ (enabledChannels m)[0] := lowestSet_le_of_set (getElem_is_set h)
  have hfirst : ¬ 0 < a := fun hpos => by
    have hlt : (enabledChannels m)[0] < (enabledChannels m)[a] := enabledChannels_getElem_lt_iff.mpr hpos
    omega
  obtain rfl : a = 0 := by omega
  exact hval.symm

/-- From a bit that is not the last of the list, `next_enabled` goes to the one behind it. -/
theorem nextEnabled_toNat_of_not_last {m : ChMask} {i : BitVec 3} {a : Nat} (ha : a + 1 < (enabledChannels m).length)
    (hi : i.toNat = (enabledChannels m)[a]) : (nextEnabled m i).toNat = (enabledChannels m)[a + 1] := by
  have habove : i.toNat < (enabledChannels m)[a + 1] := hi ▸ enabledChannels_getElem_lt_iff.mpr (Nat.lt_succ_self a)
  obtain ⟨hlow, hhigh⟩ := nextEnabled_of_set_above habove (getElem_is_set ha)
  obtain ⟨b, hb, hval⟩ := exists_getElem_of_set (nextEnabled_is_set i (m := m) (by unfold popcount; omega))
  rw [← hval] at hlow hhigh ⊢
  rw [hi, enabledChannels_getElem_lt_iff] at hlow
  rw [← not_lt, enabledChannels_getElem_lt_iff] at hhigh
  obtain rfl : b = a + 1 := by omega
  rfl

/-- From the last bit of the list it goes back to the first. -/
theorem nextEnabled_of_last {m : ChMask} {i : BitVec 3} {a : Nat} (ha : a < (enabledChannels m).length)
    (hi : i.toNat = (enabledChannels m)[a]) (hlast : a + 1 = (enabledChannels m).length) :
    nextEnabled m i = lowestSet m := by
  refine nextEnabled_of_none_above fun j hij => Bool.eq_false_iff.mpr fun hj => ?_
  obtain ⟨b, hb, rfl⟩ := List.getElem_of_mem (mem_enabledChannels_of_set hj)
  rw [hi, enabledChannels_getElem_lt_iff] at hij
  omega

/-- After `k` advances from the lowest set bit the pointer stands at place `k`, counted around the list. -/
theorem iterate_nextEnabled_toNat {m : ChMask} (h : 0 < (enabledChannels m).length) (k : Nat) :
    ((nextEnabled m)^[k] (lowestSet m)).toNat =
      (enabledChannels m)[k % (enabledChannels m).length]'(Nat.mod_lt k h) := by
  induction k with
  | zero =>
    rw [Function.iterate_zero, id, lowestSet_toNat h]
    simp only [Nat.zero_mod]
  | succ k ih =>
    have hplace := Nat.mod_lt k h
    have hmod : (k + 1) % (enabledChannels m).length = (k % (enabledChannels m).length + 1) % (enabledChannels m).length :=
      (Nat.mod_add_mod k _ 1).symm
    rw [Function.iterate_succ_apply']
    by_cases hlast : k % (enabledChannels m).length + 1 = (enabledChannels m).length
    · rw [nextEnabled_of_last hplace ih hlast, lowestSet_toNat h]
      simp only [hmod, hlast, Nat.mod_self]
    · have hmore : k % (enabledChannels m).length + 1 < (enabledChannels m).length := by omega
      rw [nextEnabled_toNat_of_not_last hmore ih]
      simp only [hmod, Nat.mod_eq_of_lt hmore]

/-- Settles O37: the list of the claim is `enabledChannels`, and a nonzero mask leaves it nonempty. -/
theorem channelsRotateInOrder : Obligations.ChannelsRotateInOrder := by
  intro m k hm
  have hpos : 0 < (enabledChannels m).length := popcount_pos_of_ne_zero hm
  exact (iterate_nextEnabled_toNat hpos k).trans (List.getD_eq_getElem _ _ (Nat.mod_lt k hpos)).symm

end Sys2Proof.Machine
end

section
/-! PROOF. The FIFO and the pending conversions (10_state.md R32, R33): every operation but CONV, the readers, ENABLE and
DISABLE_ALL keeps both queues, so the FIFO is in order (43_packet_channel.md R99), and a pending conversion is lost to a CONV step
or a power-down only, which with fairness gives R106. -/

namespace Sys2Proof.Machine

/-! ## The CONV step (R101) -/

theorem convEnabled_iff (s : State) :
    s.convEnabled = true ↔ s.enabled = true ∧ s.faulted = false ∧ s.pend ≠ 0#3 := by
  simp only [State.convEnabled, Bool.and_eq_true, Bool.not_eq_true', decide_eq_true_eq, and_assoc]

/-- Settles O35: `convStep_cases` has the two cases of the claim, and each is a push written out. -/
theorem convStepPushesWord : Obligations.ConvStepPushesWord := by
  intro s raw item token
  refine ⟨convEnabled_iff s, rfl, fun hlast => ?last, fun hmore => ?more⟩
  case last =>
    obtain ⟨-, h⟩ | ⟨hmore, -⟩ := convStep_cases s raw
    · rw [h]
      simp only [State.pushItem, List.append_assoc, List.singleton_append]
      rfl
    · exact absurd hlast hmore
  case more =>
    obtain ⟨hlast, -⟩ | ⟨-, h⟩ := convStep_cases s raw
    · exact absurd hlast hmore
    · rw [h]
      rfl

/-- What a CONV step puts at the tail of the FIFO. -/
theorem convStep_fifo (s : State) (raw : Word) : ∃ w,
    (s.convStep raw).fifo = s.fifo ++ [.data w] ∨
    (s.convStep raw).fifo = s.fifo ++ [.data w, .ctrl s.params.endCode] := by
  obtain ⟨-, -, hlast, hmore⟩ := convStepPushesWord s raw
  refine ⟨justify s.params.adcRes s.width raw, ?_⟩
  by_cases h : s.pktcnt.toNat + 1 = s.spp
  · exact .inr (by rw [hlast h])
  · exact .inl (by rw [hmore h])

theorem convStep_pend (s : State) (raw : Word) : (s.convStep raw).pend = s.pend - 1#3 := by
  obtain ⟨-, h⟩ | ⟨-, h⟩ := convStep_cases s raw <;> rw [h] <;> rfl

/-- A CONV step puts one Data item into the FIFO: the token is none. -/
theorem convStep_dataCount (s : State) (raw : Word) : dataCount (s.convStep raw).fifo = dataCount s.fifo + 1 := by
  obtain ⟨w, h | h⟩ := convStep_fifo s raw <;> rw [h, dataCount_append] <;> simp

/-! ## Operations that keep both queues -/

/-- From `s` to `t` the FIFO is as it was and no pending conversion is lost. -/
def State.KeepsQueues (s t : State) : Prop := t.fifo = s.fifo ∧ s.pend.toNat ≤ t.pend.toNat

theorem faultEnter_keepsQueues (s : State) (c : Cause) (w : Word) : s.KeepsQueues (s.faultEnter c w) := ⟨rfl, le_rfl⟩

theorem overrun_keepsQueues (s : State) (w : Word) : s.KeepsQueues ((s.pulse .sample).faultEnter .overrun w) := ⟨rfl, le_rfl⟩

/-- Below the ceiling PEND does not wrap. -/
theorem queuePulse_keepsQueues {s : State} (hocc : s.occ < 5) : s.KeepsQueues s.queuePulse := by
  have hpend : s.pend.toNat < 5 := (Nat.le_add_left _ _).trans_lt hocc
  refine ⟨rfl, ?_⟩
  rw [queuePulse_frame]
  dsimp only
  rw [toNat_add_one_of_lt hpend (by decide)]
  exact Nat.le_succ _

theorem ctrlSeqStep_keepsQueues (s : State) : s.KeepsQueues s.ctrlSeqStep := by
  obtain ⟨-, h⟩ | ⟨hocc, -, h⟩ | ⟨hocc, -, h⟩ := ctrlSeqStep_cases s <;> rw [h]
  · exact overrun_keepsQueues s _
  · exact queuePulse_keepsQueues (s := s.idlePort .ctrl) hocc
  · exact queuePulse_keepsQueues (s := { s with tpRem := s.tpRem - 1#3 }) hocc

theorem triggerBody_keepsQueues (s : State) (word : Word) : s.KeepsQueues (s.triggerBody word) := by
  obtain ⟨-, h⟩ | ⟨-, -, h⟩ | ⟨-, hocc, h⟩ := triggerBody_cases s word <;> rw [h]
  · exact faultEnter_keepsQueues s _ word
  · exact overrun_keepsQueues s word
  · exact queuePulse_keepsQueues hocc

theorem triggerPacketBody_keepsQueues (s : State) (word : Word) : s.KeepsQueues (s.triggerPacketBody word) := by
  unfold State.triggerPacketBody
  split <;> exact ⟨rfl, le_rfl⟩

theorem readBody_keepsQueues (s : State) (word : Word) : s.KeepsQueues (s.readBody word) := by
  unfold State.readBody
  split <;> exact ⟨rfl, le_rfl⟩

theorem readPacketBody_keepsQueues (s : State) (word : Word) : s.KeepsQueues (s.readPacketBody word) := by
  obtain ⟨-, h⟩ | ⟨-, -, h⟩ | ⟨-, -, h⟩ := readPacketBody_cases s word <;> rw [h] <;> exact ⟨rfl, le_rfl⟩

/-! ## Operations that take from the FIFO -/

/-- A READER step pops one item at most (R108, R111). -/
theorem readerStep_fifo (s : State) : s.readerStep.fifo = s.fifo ∨ ∃ x, s.fifo = x :: s.readerStep.fifo := by
  obtain ⟨-, h⟩ | ⟨c, rest, -, hf, h⟩ | ⟨w, rest, -, hf, h⟩ | ⟨w, rest, -, hf, h⟩ | ⟨c, rest, -, hf, h⟩ :=
    readerStep_cases s <;> rw [h]
  · exact .inl rfl
  · exact .inr ⟨_, hf⟩
  · exact .inr ⟨_, hf⟩
  · split
    · exact .inr ⟨_, hf⟩
    · exact .inl rfl
  · split
    · exact .inl rfl
    · exact .inr ⟨_, hf⟩

theorem readerStep_pend (s : State) : s.readerStep.pend = s.pend := by
  obtain ⟨-, h⟩ | ⟨c, rest, -, -, h⟩ | ⟨w, rest, -, -, h⟩ | ⟨w, rest, -, -, h⟩ | ⟨c, rest, -, -, h⟩ :=
    readerStep_cases s <;> rw [h]
  · rfl
  · rfl
  · split <;> rfl
  · split <;> rfl

/-- The FIFO `new` is `old` without some tokens at its head and perhaps the data word behind them. -/
def PopsTokensAndWord (old new : List WireItem) : Prop :=
  ∃ codes : List Byte, old = codes.map WireItem.ctrl ++ new ∨ ∃ w, old = codes.map WireItem.ctrl ++ .data w :: new

/-- The loop of TRY_READ takes tokens from the head and nothing else (R113). -/
theorem absorbTokens_fifo (items : List WireItem) (s : State) (hf : s.fifo = items) :
    ∃ codes : List Byte, items = codes.map WireItem.ctrl ++ (s.absorbTokens items).fifo := by
  induction items generalizing s with
  | nil => exact ⟨[], hf.symm⟩
  | cons x rest ih =>
    cases x with
    | data w => exact ⟨[], hf.symm⟩
    | ctrl c =>
      obtain ⟨codes, hrest⟩ := ih { s.popTo (.ctrl c) rest with rdPos := 0#3 } rfl
      exact ⟨c :: codes, congrArg (WireItem.ctrl c :: ·) hrest⟩

theorem tryReadBody_fifo (s : State) (word : Word) : PopsTokensAndWord s.fifo (s.tryReadBody word).fifo := by
  obtain ⟨codes, hcodes⟩ := absorbTokens_fifo s.fifo s rfl
  obtain ⟨-, h⟩ | ⟨w, rest, -, hf, h⟩ | ⟨-, -, h⟩ := tryReadBody_cases s word <;> rw [h]
  · exact ⟨[], .inl rfl⟩
  · exact ⟨codes, .inr ⟨w, hcodes.trans (by rw [hf]; rfl)⟩⟩
  · exact ⟨codes, .inl hcodes⟩

theorem tryReadBody_pend (s : State) (word : Word) : (s.tryReadBody word).pend = s.pend := by
  obtain ⟨-, h⟩ | ⟨w, rest, -, -, h⟩ | ⟨-, -, h⟩ := tryReadBody_cases s word <;> rw [h]
  · rfl
  · rw [absorbTokens_frame]
    rfl
  · rw [absorbTokens_frame]

/-! ## Operations that empty the FIFO -/

/-- ENABLE empties the FIFO only when no conversion is pending (R82). -/
theorem enableBody_queues (s : State) (word : Word) (ch : ChMask) (bps : BitVec 2) (spp : Nat) :
    s.KeepsQueues (s.enableBody word ch bps spp) ∨ ((s.enableBody word ch bps spp).fifo = [] ∧ s.pend = 0#3) := by
  obtain ⟨c, -, h⟩ | ⟨-, -, h⟩ | ⟨-, hidle, h⟩ := enableBody_cases s word ch bps spp <;> rw [h]
  · exact .inl (faultEnter_keepsQueues s c word)
  · exact .inl (faultEnter_keepsQueues s _ word)
  · obtain ⟨-, hpend, -⟩ := outstanding_eq_false.mp hidle
    refine .inr ⟨?_, hpend⟩
    rw [calibrate_eq, State.programConfig_fifo]

/-- DISABLE_ALL empties the FIFO and disables the block (R87). -/
theorem disableAll_queues (s : State) :
    (commandBody .disableAll s).fifo = [] ∧ (commandBody .disableAll s).enabled = false := by
  dsimp only [commandBody]
  split <;> exact ⟨rfl, rfl⟩

/-! ## The FIFO, step by step -/

/-- What a command leaves of the FIFO `old`: all of it, or `new` after a TRY_READ, or nothing after an ENABLE or DISABLE_ALL. -/
inductive CommandFifo (i : Instr) (old new : List WireItem) : Prop where
  | kept (h : new = old)
  | tryRead (hi : i = .tryRead) (h : PopsTokensAndWord old new)
  | emptied (hi : i = .disableAll ∨ ∃ ch bps spp cal, i = .enable ch bps spp cal) (h : new = [])

theorem commandBody_fifo (i : Instr) (s : State) : CommandFifo i s.fifo (commandBody i s).fifo := by
  cases i with
  | enable ch bps spp cal =>
    obtain ⟨hkept, -⟩ | ⟨hempty, -⟩ := enableBody_queues s (encode (.enable ch bps spp cal)) ch bps spp
    · exact .kept hkept
    · exact .emptied (.inr ⟨ch, bps, spp, cal, rfl⟩) hempty
  | disableAll => exact .emptied (.inl rfl) (disableAll_queues s).1
  | trigger => exact .kept (triggerBody_keepsQueues s _).1
  | triggerPacket => exact .kept (triggerPacketBody_keepsQueues s _).1
  | read => exact .kept (readBody_keepsQueues s _).1
  | readPacket => exact .kept (readPacketBody_keepsQueues s _).1
  | tryRead => exact .tryRead rfl (tryReadBody_fifo s _)

/-- What a step from `s` can leave as the FIFO, each way with the turn that it needs. -/
inductive StepFifo (s : State) (new : List WireItem) : Prop where
  | kept (h : new = s.fifo)
  | reset (hturn : s.nextTurn = .tileReset) (h : new = [])
  | conv (hturn : s.nextTurn = .agent .conv)
      (h : ∃ w, new = s.fifo ++ [.data w] ∨ new = s.fifo ++ [.data w, .ctrl s.params.endCode])
  | reader (hturn : s.nextTurn = .agent .reader) (h : ∃ x, s.fifo = x :: new)
  | command {g : HostAgent} {p : Port} {v : Word} {rest : List Access} (hword : Presents s g p v rest) {i : Instr}
      (hdec : decode p v = .ok i) (h : CommandFifo i s.fifo new)

theorem stepFifo_of_step {s s' : State} (hstep : step s = .next s') : StepFifo s s'.fifo := by
  cases stepEffect_of_step hstep with
  | reset e hturn => exact .reset hturn rfl
  | hold e => exact .kept rfl
  | ctrlSeq e => exact .kept (ctrlSeqStep_keepsQueues _).1
  | conv e raw hturn => exact .conv hturn (convStep_fifo { s with env := e } raw)
  | reader e hturn =>
    obtain hkept | hpopped := readerStep_fifo { s with env := e }
    · exact .kept hkept
    · exact .reader hturn hpopped
  | drop e => exact .kept rfl
  | malformed e => exact .kept rfl
  | @command e g p v rest hword i hdec =>
    exact .command hword hdec (commandBody_fifo i (({ s with env := e }).record (.accept p v)))

/-- The tile reset is the whole of its turn (R135). -/
theorem step_of_tileReset {s : State} (hturn : s.nextTurn = .tileReset) : step s = .next s.consumeTurn.tileReset := by
  rw [step_eq, hturn, takeTurn]

/-- Settles O55: of the ways in `StepFifo`, each clause keeps those that its turn allows. -/
theorem fifoIsInOrder : Obligations.FifoIsInOrder := by
  intro s s' hstep
  have hfifo := stepFifo_of_step hstep
  refine ⟨fun hturn => ?reset, fun hturn => ?conv, fun hturn => ?reader, fun hturn => ?ctrlSeq, fun h hturn => ?host⟩
  case reset =>
    rw [step_of_tileReset hturn] at hstep
    cases hstep
    rfl
  case conv =>
    cases hfifo with
    | kept hkept => exact .inl hkept
    | conv _ hpushed => exact .inr hpushed
    | reset ht | reader ht => exact absurd (hturn.symm.trans ht) nofun
    | command hword => exact absurd (hturn.symm.trans hword.turn) nofun
  case reader =>
    cases hfifo with
    | kept hkept => exact .inl hkept
    | reader _ hpopped => exact .inr hpopped
    | reset ht | conv ht => exact absurd (hturn.symm.trans ht) nofun
    | command hword => exact absurd (hturn.symm.trans hword.turn) nofun
  case ctrlSeq =>
    cases hfifo with
    | kept hkept => exact hkept
    | reset ht | conv ht | reader ht => exact absurd (hturn.symm.trans ht) nofun
    | command hword => exact absurd (hturn.symm.trans hword.turn) nofun
  case host =>
    cases hfifo with
    | kept hkept => exact .inl hkept
    | reset ht | conv ht | reader ht => exact absurd (hturn.symm.trans ht) nofun
    | @command g p v rest hword i hdec hleft =>
      obtain rfl : h = g := by simpa using hturn.symm.trans hword.turn
      cases hleft with
      | kept hkept => exact .inl hkept
      | tryRead hi hpopped => exact .inr ⟨p, v, rest, i, hword.todo, hdec, .inl ⟨hi, hpopped⟩⟩
      | emptied hi hempty => exact .inr ⟨p, v, rest, i, hword.todo, hdec, .inr ⟨hi, hempty⟩⟩

/-! ## The pending conversions, step by step -/

/-- A command loses no pending conversion, unless it disables the block. -/
theorem commandBody_pend_le (i : Instr) (s : State) (hen : (commandBody i s).enabled = true) :
    s.pend.toNat ≤ (commandBody i s).pend.toNat := by
  cases i with
  | enable ch bps spp cal =>
    obtain ⟨-, hkept⟩ | ⟨-, hpend⟩ := enableBody_queues s (encode (.enable ch bps spp cal)) ch bps spp
    · exact hkept
    · rw [hpend]
      exact Nat.zero_le _
  | disableAll => exact absurd ((disableAll_queues s).2.symm.trans hen) nofun
  | trigger => exact (triggerBody_keepsQueues s _).2
  | triggerPacket => exact (triggerPacketBody_keepsQueues s _).2
  | read => exact (readBody_keepsQueues s _).2
  | readPacket => exact (readPacketBody_keepsQueues s _).2
  | tryRead => exact (congrArg BitVec.toNat (tryReadBody_pend s _)).ge

/-- A step that neither resets nor disables the block loses no pending conversion but the one that CONV performs in it. -/
theorem step_pend_le {s s' : State} (hstep : step s = .next s') (hreset : s.nextTurn ≠ .tileReset) (hen : s'.enabled = true) :
    s.pend.toNat ≤ s'.pend.toNat + if s.nextTurn = .agent .conv ∧ s.agentEnabled .conv = true then 1 else 0 := by
  cases stepEffect_of_step hstep with
  | reset e hturn => exact absurd hturn hreset
  | hold e => exact Nat.le_add_right _ _
  | ctrlSeq e => exact Nat.le_add_right_of_le (ctrlSeqStep_keepsQueues { s with env := e }).2
  | conv e raw hturn hconv =>
    obtain ⟨-, -, hpend⟩ := (convEnabled_iff s).mp hconv
    have hpos : s.pend.toNat ≠ 0 := fun h0 => hpend (BitVec.eq_of_toNat_eq h0)
    rw [if_pos ⟨hturn, hconv⟩, convStep_pend, toNat_sub_one_of_ne_zero hpend]
    omega
  | reader e =>
    rw [readerStep_pend]
    exact Nat.le_add_right _ _
  | drop e => exact Nat.le_add_right _ _
  | malformed e => exact Nat.le_add_right _ _
  | command e => exact Nat.le_add_right_of_le (commandBody_pend_le _ _ hen)

/-! ## Runs -/

/-- Over `k` positions without a reset at which the block stays enabled, only CONV steps use up pending conversions. -/
theorem pend_le_pend_add_stepCount {r : Nat → State} (hrun : IsRun r) (n k : Nat)
    (hreset : ∀ j < k, (r (n + j)).nextTurn ≠ .tileReset) (hen : ∀ j ≤ k, (r (n + j)).enabled = true) :
    (r n).pend.toNat ≤ (r (n + k)).pend.toNat + stepCount r .conv n k := by
  induction k with
  | zero => exact Nat.le_add_right _ _
  | succ k ih =>
    have hbefore := ih (fun j hj => hreset j (by omega)) (fun j hj => hen j (by omega))
    have hlast := step_pend_le (hrun (n + k)) (hreset k (Nat.lt_succ_self k)) (hen (k + 1) le_rfl)
    rw [stepCount, ← Nat.add_assoc n k 1]
    omega

theorem stepCount_mono (r : Nat → State) (a : Agent) (n : Nat) : Monotone (stepCount r a n) :=
  monotone_nat_of_le_succ fun _ => Nat.le_add_right _ _

theorem stepCount_succ_of_stepsAt {r : Nat → State} {a : Agent} {n k : Nat} (h : StepsAt r a (n + k)) :
    stepCount r a n (k + 1) = stepCount r a n k + 1 := by
  exact congrArg (stepCount r a n k + ·) (if_pos h)

/-- An agent that is enabled from `n` on and weakly fair takes any number of steps. -/
theorem exists_le_stepCount {r : Nat → State} {a : Agent} {n : Nat} (hfair : WeaklyFair r a)
    (hen : ∀ m, n ≤ m → (r m).agentEnabled a = true) (c : Nat) : ∃ k, c ≤ stepCount r a n k := by
  induction c with
  | zero => exact ⟨0, Nat.zero_le _⟩
  | succ c ih =>
    obtain ⟨k, hk⟩ := ih
    obtain ⟨m, hm, hsteps⟩ := hfair (n + k) fun m hm => hen m (by omega)
    obtain ⟨j, rfl⟩ : ∃ j, m = n + j := Nat.exists_eq_add_of_le (by omega)
    refine ⟨j + 1, ?_⟩
    rw [stepCount_succ_of_stepsAt hsteps]
    exact Nat.succ_le_succ (hk.trans (stepCount_mono r a n (by omega)))

/-- The step of a run at which CONV steps is a CONV step, whatever the environment gives it to convert. -/
theorem step_of_convEnabled {s : State} (hturn : s.nextTurn = .agent .conv) (hen : s.agentEnabled .conv = true) :
    ∃ e raw, step s = .next (({ s with env := e }).convStep raw) := by
  have hen' : s.consumeTurn.agentEnabled .conv = true := by
    rw [consumeTurn_eq]
    exact hen
  rw [step_eq, hturn, takeTurn, if_pos hen', agentStep, consumeDraw_eq, consumeTurn_eq]
  exact ⟨_, _, rfl⟩

/-- Settles O59: were the block never disabled, faulted or reset and CONV short of PEND steps for ever, a conversion would stay
pending, so CONV would stay enabled, and fairness would give it the missing steps. -/
theorem fairConversionHappens : Obligations.FairConversionHappens := by
  intro r n hrun hfair _
  refine ⟨fun m ⟨hturn, hen⟩ => ?pushes, ?performed⟩
  case pushes =>
    obtain ⟨e, raw, hstep⟩ := step_of_convEnabled hturn hen
    rw [Host.Outcome.next.inj ((hrun m).symm.trans hstep)]
    exact convStep_dataCount _ raw
  case performed =>
    by_contra! hnever
    have hen (k : Nat) : (r (n + k)).enabled = true := by simpa using (hnever k).2.1
    have hconv (m : Nat) (hm : n ≤ m) : (r m).agentEnabled .conv = true := by
      obtain ⟨k, rfl⟩ := Nat.exists_eq_add_of_le hm
      obtain ⟨hshort, -, hunfaulted, -⟩ := hnever k
      have hleft := pend_le_pend_add_stepCount hrun n k (fun j _ => (hnever j).2.2.2) (fun j _ => hen j)
      refine (convEnabled_iff _).mpr ⟨hen k, by simpa using hunfaulted, fun h0 => ?_⟩
      rw [h0, BitVec.toNat_ofNat] at hleft
      omega
    obtain ⟨k, hk⟩ := exists_le_stepCount hfair hconv (r n).pend.toNat
    exact absurd hk (Nat.not_le.mpr (hnever k).1)

end Sys2Proof.Machine
end

section
/-! PROOF. The reader commands, one step at a time (44_sample_reader.md R107 to R113): an equation for each case of a READER step,
for the accepting steps of READ and READ_PACKET, and for TRY_READ with and without a word behind the tokens. -/

namespace Sys2Proof.Machine

/-! ## When READER has a step (R108, R111) -/

theorem readerEnabled_iff (s : State) :
    s.readerEnabled = true ↔ s.rdOp ≠ .none ∧ s.faulted = false ∧ s.fifo ≠ [] := by
  simp only [State.readerEnabled, Bool.and_eq_true, Bool.not_eq_true', decide_eq_true_eq, List.isEmpty_eq_false_iff,
    and_assoc]

/-! ## The READER step, case by case (R108, R111) -/

section Steps
variable {s : State} {w : Word} {c : Byte} {rest : List WireItem}

theorem readerStep_read_token (hop : s.rdOp = .read) (hfifo : s.fifo = .ctrl c :: rest) :
    s.readerStep = { s.popTo (.ctrl c) rest with rdPos := 0#3 } := by
  simp only [State.readerStep, hop, State.readStep, hfifo]

theorem readerStep_read_word (hop : s.rdOp = .read) (hfifo : s.fifo = .data w :: rest) :
    s.readerStep = { s.takeWord w rest with rdBusy := false, rdOp := .none } := by
  simp only [State.readerStep, hop, State.readStep, hfifo]

theorem readerStep_packet_word (hop : s.rdOp = .readPacket) (hfifo : s.fifo = .data w :: rest) (hdue : s.rdIdx.toNat < s.spp) :
    s.readerStep = s.takePacketWord w rest := by
  simp only [State.readerStep, hop, State.readPacketStep, hfifo, if_pos hdue]

theorem readerStep_packet_word_at_trailer (hop : s.rdOp = .readPacket) (hfifo : s.fifo = .data w :: rest)
    (hdone : s.spp ≤ s.rdIdx.toNat) : s.readerStep = s.faultEnter .protoDataAtTrailer s.rdWord := by
  simp only [State.readerStep, hop, State.readPacketStep, hfifo, if_neg (Nat.not_lt.mpr hdone)]

theorem readerStep_packet_token_in_data (hop : s.rdOp = .readPacket) (hfifo : s.fifo = .ctrl c :: rest)
    (hdue : s.rdIdx.toNat < s.spp) : s.readerStep = s.faultEnter .protoCtrlInData s.rdWord := by
  simp only [State.readerStep, hop, State.readPacketStep, hfifo, if_pos hdue]

theorem readerStep_packet_trailer (hop : s.rdOp = .readPacket) (hfifo : s.fifo = .ctrl c :: rest)
    (hdone : s.spp ≤ s.rdIdx.toNat) : s.readerStep = s.takeTrailer c rest := by
  simp only [State.readerStep, hop, State.readPacketStep, hfifo, if_neg (Nat.not_lt.mpr hdone)]

end Steps

/-! ## Commands that are not dropped -/

/-- The state after a command of a block that is not faulted. -/
theorem after_of_not_faulted {s : State} (hf : s.faulted = false) (i : Instr) : s.after i = commandBody i s := by
  rw [State.after, exec_of_not_faulted hf, outcomeState]

section Commands
variable {s : State} {word : Word}

theorem readBody_of_enabled (hen : s.enabled = true) :
    s.readBody word = { s with rdOp := .read, rdWord := word, rdValid := false, rdBusy := true } :=
  if_pos hen

theorem readPacketBody_of_aligned (hen : s.enabled = true) (hpos : s.rdPos = 0#3) :
    s.readPacketBody word = { s with rdOp := .readPacket, rdWord := word, rdIdx := 0#3, rdBusy := true } := by
  rw [State.readPacketBody, if_pos hen, if_neg (not_not.mpr hpos)]

theorem readPacketBody_of_misaligned (hen : s.enabled = true) (hpos : s.rdPos ≠ 0#3) :
    s.readPacketBody word = s.faultEnter .protoMisaligned word := by
  rw [State.readPacketBody, if_pos hen, if_pos hpos]

/-- The loop of TRY_READ absorbs exactly the tokens in front of `items` when `items` does not begin with one (R113). -/
theorem absorbTokens_of_fifo {codes : List Byte} {items : List WireItem} (hfifo : s.fifo = codes.map WireItem.ctrl ++ items)
    (hstop : ∀ c r, items ≠ .ctrl c :: r) :
    s.absorbTokens s.fifo =
      { s with
        fifo := items, rdPos := if codes = [] then s.rdPos else 0#3
        history := (codes.map fun c => Event.pop (.ctrl c)).reverse ++ s.history } := by
  rw [hfifo, absorbTokens_tokens, absorbTokens_stops _ _ hstop]
  by_cases hcodes : codes = []
  · subst hcodes
    rw [if_pos rfl, if_pos rfl, ← show s.fifo = items from hfifo]
    rfl
  · rw [if_neg hcodes, if_neg hcodes]

theorem tryReadBody_of_word {w : Word} {rest : List WireItem} (hen : s.enabled = true)
    (hfifo : (s.absorbTokens s.fifo).fifo = .data w :: rest) :
    s.tryReadBody word = (s.absorbTokens s.fifo).takeWord w rest := by
  simp only [State.tryReadBody, if_pos hen, hfifo]

theorem tryReadBody_of_empty (hen : s.enabled = true) (hfifo : (s.absorbTokens s.fifo).fifo = []) :
    s.tryReadBody word = { s.absorbTokens s.fifo with rdValid := false } := by
  simp only [State.tryReadBody, if_pos hen, hfifo]

end Commands

/-! ## The claims -/

/-- Settles O38: the accepting step of an enabled block, with the command's own word. -/
theorem readStarts : Obligations.ReadStarts := by
  intro s hf hen
  have hword : encode .read = 0x00000008#32 := by decide
  rw [exec_of_not_faulted hf, commandBody, readBody_of_enabled hen, hword]

/-- Settles O39: enabledness, then the two READ cases of the READER step. -/
theorem readStepDelivers : Obligations.ReadStepDelivers := by
  intro s
  refine ⟨readerEnabled_iff s, fun hop c rest hfifo => ?token, fun hop w rest hfifo => ?word⟩
  case token =>
    rw [agentStep, readerStep_read_token hop hfifo]
    rfl
  case word =>
    rw [agentStep, readerStep_read_word hop hfifo]
    rfl

/-- Settles O40: the packet boundary decides between the accepting step and the fault. -/
theorem readPacketStarts : Obligations.ReadPacketStarts := by
  intro s hf hen
  have hword : encode .readPacket = 0x00000009#32 := by decide
  rw [exec_of_not_faulted hf, commandBody, hword]
  exact ⟨fun hpos => by rw [readPacketBody_of_aligned hen hpos], fun hpos => by rw [readPacketBody_of_misaligned hen hpos]⟩

/-- Settles O41: enabledness, then the four READ_PACKET cases of the READER step. -/
theorem readPacketStepTakesItem : Obligations.ReadPacketStepTakesItem := by
  intro s
  refine ⟨readerEnabled_iff s, fun hop hdue w rest hfifo => ?word, fun hop hdue c rest hfifo => ?tokenInData,
    fun hop hdone w rest hfifo => ?wordAtTrailer, fun hop hdone c rest hfifo => ?trailer⟩
  case word =>
    rw [agentStep, readerStep_packet_word hop hfifo hdue]
    rfl
  case tokenInData => rw [agentStep, readerStep_packet_token_in_data hop hfifo hdue]
  case wordAtTrailer => rw [agentStep, readerStep_packet_word_at_trailer hop hfifo hdone]
  case trailer =>
    rw [agentStep, readerStep_packet_trailer hop hfifo hdone]
    rfl

/-- Settles O42: after the loop the head of the FIFO is the word, or there is none. -/
theorem tryReadResult : Obligations.TryReadResult := by
  intro s codes hf hen absorbed pos
  refine ⟨fun w rest hfifo => ?word, fun hfifo => ?empty⟩
  case word =>
    have habsorbed := absorbTokens_of_fifo hfifo nofun
    rw [exec_of_not_faulted hf, commandBody, tryReadBody_of_word hen (by rw [habsorbed]), habsorbed]
    rfl
  case empty =>
    have habsorbed := absorbTokens_of_fifo (hfifo.trans (List.append_nil _).symm) nofun
    rw [exec_of_not_faulted hf, commandBody, tryReadBody_of_empty hen (by rw [habsorbed]), habsorbed]

end Sys2Proof.Machine
end

section
/-! PROOF. The sequence property (44_sample_reader.md R115, R117): TRIGGERs queue conversions, conversions put their words on the
wire, and each READ takes the first word that is there, with the token in front of it if there is one. -/

namespace Sys2Proof.Machine

/-! ## The words on the wire (10_state.md R33, R36) -/

/-- The data words of a run of wire items, in order; `length_dataWords` ties it to `dataCount`. -/
def dataWords : List WireItem → List Word
  | [] => []
  | .data w :: rest => w :: dataWords rest
  | .ctrl _ :: rest => dataWords rest

@[simp] theorem dataWords_nil : dataWords [] = [] := rfl

@[simp] theorem dataWords_data (w : Word) (rest : List WireItem) : dataWords (.data w :: rest) = w :: dataWords rest := rfl

@[simp] theorem dataWords_ctrl (c : Byte) (rest : List WireItem) : dataWords (.ctrl c :: rest) = dataWords rest := rfl

theorem length_dataWords (xs : List WireItem) : (dataWords xs).length = dataCount xs := by
  induction xs with
  | nil => rfl
  | cons x xs ih => cases x <;> simp [ih]

theorem dataWords_append (xs ys : List WireItem) : dataWords (xs ++ ys) = dataWords xs ++ dataWords ys := by
  induction xs with
  | nil => rfl
  | cons x xs ih => cases x <;> simp [ih]

@[simp] theorem dataWords_map_data (ws : List Word) : dataWords (ws.map WireItem.data) = ws := by
  induction ws with
  | nil => rfl
  | cons w ws ih => simp [ih]

namespace State.WellBehaved

variable {s : State}

/-- R46: TRIG rests at 0. -/
theorem trig_low (h : s.WellBehaved) : s.trig = false := by
  obtain ⟨-, htrig, -⟩ := h.history
  exact htrig

/-- R110: during a READ_PACKET the index into PKT_BUF is the position in the packet. -/
theorem rdIdx_eq_rdPos (h : s.WellBehaved) (hop : s.rdOp = .readPacket) : s.rdIdx = s.rdPos := by
  obtain ⟨-, hpacket, -⟩ := h.rdPort
  exact (hpacket hop).1

/-- R36: a token with something behind it has a word behind it. -/
theorem word_behind_token (h : s.WellBehaved) {c : Byte} {rest : List WireItem} (hfifo : s.fifo = .ctrl c :: rest)
    (hrest : rest ≠ []) : ∃ w tail, rest = .data w :: tail := by
  obtain ⟨hadjacent, -⟩ := tokensFrameThePackets s h (h.enabled_of_fifo hfifo)
  cases rest with
  | nil => exact absurd rfl hrest
  | cons x tail =>
    cases x with
    | data w => exact ⟨w, tail, rfl⟩
    | ctrl d => exact absurd hfifo (hadjacent [] c d tail)

/-- R36: the first word is at the head of the FIFO, or behind one token. -/
theorem fifo_of_dataWords (h : s.WellBehaved) {w : Word} {ws : List Word} (hwords : dataWords s.fifo = w :: ws) :
    ∃ rest, dataWords rest = ws ∧ (s.fifo = .data w :: rest ∨ ∃ c, s.fifo = .ctrl c :: .data w :: rest) := by
  cases hfifo : s.fifo with
  | nil => simp [hfifo] at hwords
  | cons x xs =>
    rw [hfifo] at hwords
    cases x with
    | data v =>
      obtain ⟨rfl, hrest⟩ := List.cons.inj hwords
      exact ⟨xs, hrest, .inl rfl⟩
    | ctrl c =>
      obtain ⟨v, rest, rfl⟩ := h.word_behind_token hfifo (by rintro rfl; cases hwords)
      obtain ⟨rfl, hrest⟩ := List.cons.inj hwords
      exact ⟨rest, hrest, .inr ⟨c, rfl⟩⟩

/-- R40: at a packet boundary a FIFO without words is empty. -/
theorem fifo_eq_nil (h : s.WellBehaved) (hwords : dataCount s.fifo = 0) (hpos : s.rdPos = 0#3) : s.fifo = [] := by
  cases hfifo : s.fifo with
  | nil => rfl
  | cons x rest =>
    cases x with
    | data w => simp [hfifo] at hwords
    | ctrl c =>
      obtain ⟨-, hboundary, -⟩ := tokensFrameThePackets s h (h.enabled_of_fifo hfifo)
      exact absurd hfifo (hboundary hpos c rest)

/-- At rest at a packet boundary nothing is on the wire and nothing is pending. -/
theorem empty_of_occ_zero (h : s.WellBehaved) (hocc : s.occ = 0) (hpos : s.rdPos = 0#3) : s.fifo = [] ∧ s.pend = 0#3 := by
  obtain ⟨hdata, hpend⟩ := Nat.add_eq_zero_iff.mp hocc
  exact ⟨h.fifo_eq_nil hdata hpos, BitVec.eq_of_toNat_eq hpend⟩

end State.WellBehaved

/-! ## A READ and its READER steps (R107, R108) -/

section Read
variable {s : State} {w : Word} {c : Byte} {rest : List WireItem}

theorem after_read (hf : s.faulted = false) (hen : s.enabled = true) :
    s.after .read = { s with rdOp := .read, rdWord := encode .read, rdValid := false, rdBusy := true } := by
  rw [after_of_not_faulted hf, commandBody, readBody_of_enabled hen]

/-- With a word at the head one READER step completes the READ. -/
theorem after_read_step_of_word (hf : s.faulted = false) (hen : s.enabled = true) (hfifo : s.fifo = .data w :: rest) :
    (s.after .read).readerStep = { s.takeWord w rest with rdBusy := false, rdOp := .none, rdWord := encode .read } := by
  rw [after_read hf hen]
  exact readerStep_read_word rfl hfifo

/-- A token at the head takes one more READER step, which leaves the READ in progress. -/
theorem after_read_step_of_token (hf : s.faulted = false) (hen : s.enabled = true) (hfifo : s.fifo = .ctrl c :: rest) :
    (s.after .read).readerStep = ({ s.popTo (.ctrl c) rest with rdPos := 0#3 }).after .read := by
  rw [after_read hf hen, after_read (s := { s.popTo (.ctrl c) rest with rdPos := 0#3 }) hf hen]
  exact readerStep_read_token rfl hfifo

theorem readToEnd_of_word (hf : s.faulted = false) (hen : s.enabled = true) (hfifo : s.fifo = .data w :: rest) :
    s.readToEnd = { s.takeWord w rest with rdBusy := false, rdOp := .none, rdWord := encode .read } := by
  rw [State.readToEnd, after_read_step_of_word hf hen hfifo]
  rfl

/-- A READ that meets a token goes on as a READ of the block without it. -/
theorem readToEnd_of_token (hf : s.faulted = false) (hen : s.enabled = true) (hfifo : s.fifo = .ctrl c :: .data w :: rest) :
    s.readToEnd = ({ s.popTo (.ctrl c) (.data w :: rest) with rdPos := 0#3 }).readToEnd := by
  set t : State := { s.popTo (.ctrl c) (.data w :: rest) with rdPos := 0#3 } with ht
  have hbusy : (t.after .read).rdBusy = true := by rw [after_read (s := t) hf hen]
  rw [readToEnd_of_word (s := t) hf hen rfl, State.readToEnd, after_read_step_of_token hf hen hfifo, ← ht]
  dsimp only
  rw [if_pos hbusy, after_read_step_of_word (s := t) hf hen rfl]

end Read

/-- A READ keeps the invariant: it is its accepting step and READER steps. -/
theorem State.WellBehaved.readToEnd {s : State} (h : s.WellBehaved) (hf : s.faulted = false) (hfree : s.rdBusy = false) :
    s.readToEnd.WellBehaved := by
  have hstep : (s.after .read).readerStep.WellBehaved := by
    rw [after_of_not_faulted hf]
    exact (h.readBody hf hfree).readerStep
  unfold State.readToEnd
  dsimp only
  split
  · exact hstep.readerStep
  · exact hstep

/-! ## READs in a row (R115) -/

/-- A block that a READ finds with the words `ws` on the wire: well-behaved, not faulted, its reader port free. -/
structure State.Readable (s : State) (ws : List Word) : Prop where
  wellBehaved : s.WellBehaved
  unfaulted : s.faulted = false
  free : s.rdBusy = false
  words : dataWords s.fifo = ws

theorem sampleValue_congr {s t : State} (hconfig : t.config = s.config) : t.sampleValue = s.sampleValue := by
  funext w
  simp only [State.sampleValue, State.width, State.bps, hconfig]

/-- A READ takes the first word on the wire, delivers it and leaves the others. -/
theorem State.Readable.readToEnd {s : State} {w : Word} {ws : List Word} (h : s.Readable (w :: ws)) :
    s.readToEnd.Readable ws ∧ s.readToEnd.sample = s.sampleValue w ∧ s.readToEnd.rdValid = true ∧
      s.readToEnd.config = s.config := by
  obtain ⟨hwb, hf, hfree, hwords⟩ := h
  have hkept := hwb.readToEnd hf hfree
  obtain ⟨rest, hrest, hfifo | ⟨c, hfifo⟩⟩ := hwb.fifo_of_dataWords hwords <;>
    have hen := hwb.enabled_of_fifo hfifo
  · rw [readToEnd_of_word hf hen hfifo] at hkept ⊢
    exact ⟨⟨hkept, hf, rfl, hrest⟩, rfl, rfl, rfl⟩
  · rw [readToEnd_of_token hf hen hfifo,
      readToEnd_of_word (s := { s.popTo (.ctrl c) (.data w :: rest) with rdPos := 0#3 }) hf hen rfl] at hkept ⊢
    exact ⟨⟨hkept, hf, rfl, hrest⟩, rfl, rfl, rfl⟩

theorem State.Readable.readSamples {s : State} {ws : List Word} (h : s.Readable ws) :
    s.readSamples ws.length = ws.map s.sampleValue := by
  induction ws generalizing s with
  | nil => rfl
  | cons w ws ih =>
    obtain ⟨hnext, hsample, -, hconfig⟩ := h.readToEnd
    rw [List.length_cons, State.readSamples, ih hnext, hsample, sampleValue_congr hconfig, List.map_cons]

/-- As long as there are words, every READ ends with a valid sample and no fault. -/
theorem State.Readable.afterReads {s : State} {ws : List Word} (h : s.Readable ws) {k : Nat} (hk : k < ws.length) :
    (s.afterReads (k + 1)).rdValid = true ∧ (s.afterReads (k + 1)).faulted = false := by
  induction k generalizing s ws with
  | zero =>
    obtain ⟨w, ws, rfl⟩ := List.exists_cons_of_length_pos hk
    obtain ⟨hnext, -, hvalid, -⟩ := h.readToEnd
    exact ⟨hvalid, hnext.unfaulted⟩
  | succ k ih =>
    obtain ⟨w, ws, rfl⟩ := List.exists_cons_of_length_pos (Nat.zero_lt_of_lt hk)
    exact ih h.readToEnd.1 (Nat.lt_of_succ_lt_succ hk)

/-! ## TRIGGERs in a row (42_trigger.md R93, R94) -/

section Triggers
variable {s : State}

theorem after_trigger_of_room (hf : s.faulted = false) (hen : s.enabled = true) (hocc : s.occ < 5) :
    s.after .trigger = s.queuePulse := by
  rw [after_of_not_faulted hf, commandBody, triggerBody_of_room hen hocc]

/-- With room for them all, `n` TRIGGERs queue `n` conversions. -/
theorem afterTriggers_of_room {n : Nat} (hf : s.faulted = false) (hen : s.enabled = true) (hroom : s.occ + n ≤ 5)
    (htrig : s.trig = false) :
    s.afterTriggers n =
      { s with
        trig := false, pulseCount := s.pulseCount + BitVec.ofNat 32 n, pend := s.pend + BitVec.ofNat 3 n
        history := List.replicate n (.pulse .sample) ++ s.history } := by
  induction n generalizing s with
  | zero => simp [State.afterTriggers, ← htrig]
  | succ n ih =>
    have hocc : s.occ < 5 := by omega
    have hraised := queuePulse_occ hocc
    rw [State.afterTriggers, after_trigger_of_room hf hen hocc, ih (s := s.queuePulse) hf hen (by omega) rfl, queuePulse_frame]
    dsimp only
    rw [add_one_add_ofNat, add_one_add_ofNat, List.append_cons, ← List.replicate_succ']

theorem State.WellBehaved.afterTriggers {n : Nat} (h : s.WellBehaved) (hf : s.faulted = false) (hen : s.enabled = true)
    (hroom : s.occ + n ≤ 5) : (s.afterTriggers n).WellBehaved := by
  induction n generalizing s with
  | zero => exact h
  | succ n ih =>
    have hocc : s.occ < 5 := by omega
    have hraised := queuePulse_occ hocc
    rw [State.afterTriggers, after_trigger_of_room hf hen hocc]
    exact ih (h.queuePulse hen hocc) hf hen (by omega)

theorem afterTriggers_succ (s : State) (n : Nat) : s.afterTriggers (n + 1) = (s.afterTriggers n).after .trigger := by
  induction n generalizing s with
  | zero => rfl
  | succ n ih => rw [State.afterTriggers, ih, ← State.afterTriggers]

/-- The sixth TRIGGER of a block at rest overruns (R93, R121). -/
theorem afterTriggers_six_fault (h : s.WellBehaved) (hf : s.faulted = false) (hen : s.enabled = true) (hocc : s.occ = 0)
    (hpend : s.pend = 0#3) : (s.afterTriggers 6).fault = 0x00000808#32 := by
  have hfive := afterTriggers_of_room (n := 5) hf hen (by omega) h.trig_low
  have hfull : 5 ≤ (s.afterTriggers 5).occ := by
    rw [hfive]
    dsimp only [State.occ]
    rw [hpend]
    exact Nat.le_add_left 5 _
  have hzero : (s.afterTriggers 5).fault = 0#32 := by
    rw [hfive]
    exact h.fault_eq_zero hf
  rw [afterTriggers_succ, after_of_not_faulted (by rw [hfive]; exact hf), commandBody,
    triggerBody_of_full (by rw [hfive]; exact hen) hfull, State.faultEnter_fault, pulse_eq]
  dsimp only
  rw [hzero]
  decide

end Triggers

/-! ## Conversions in a row (43_packet_channel.md R101) -/

theorem convStep_dataWords (s : State) (raw : Word) :
    dataWords (s.convStep raw).fifo = dataWords s.fifo ++ [justify s.params.adcRes s.width raw] := by
  obtain ⟨-, h⟩ | ⟨-, h⟩ := convStep_cases s raw <;> rw [h] <;> simp [dataWords_append]

/-- What a conversion leaves alone (R101). -/
theorem convStep_frame (s : State) (raw : Word) :
    s.convStep raw =
      { s with
        chptr := (s.convStep raw).chptr, pktcnt := (s.convStep raw).pktcnt, pend := (s.convStep raw).pend
        fifo := (s.convStep raw).fifo, history := (s.convStep raw).history } := by
  obtain ⟨-, h⟩ | ⟨-, h⟩ := convStep_cases s raw <;> rw [h] <;> rfl

theorem afterConversions_cons (s : State) (raw : Word) (raws : List Word) :
    s.afterConversions (raw :: raws) = (s.convStep raw).afterConversions raws := rfl

theorem afterConversions_frame (s : State) (raws : List Word) :
    s.afterConversions raws =
      { s with
        chptr := (s.afterConversions raws).chptr, pktcnt := (s.afterConversions raws).pktcnt
        pend := (s.afterConversions raws).pend, fifo := (s.afterConversions raws).fifo
        history := (s.afterConversions raws).history } := by
  induction raws generalizing s with
  | nil => rfl
  | cons raw raws ih =>
    have hrest := ih (s.convStep raw)
    rw [afterConversions_cons]
    generalize (s.convStep raw).afterConversions raws = t at hrest ⊢
    rw [convStep_frame] at hrest
    exact hrest

/-- The words of the conversions join those on the wire, in order. -/
theorem afterConversions_dataWords (s : State) (raws : List Word) :
    dataWords (s.afterConversions raws).fifo = dataWords s.fifo ++ raws.map (justify s.params.adcRes s.width) := by
  induction raws generalizing s with
  | nil => simp [State.afterConversions]
  | cons raw raws ih =>
    have hsame : (s.convStep raw).params.adcRes = s.params.adcRes ∧ (s.convStep raw).width = s.width := by
      rw [convStep_frame]
      exact ⟨rfl, rfl⟩
    calc dataWords (s.afterConversions (raw :: raws)).fifo
        = dataWords (s.convStep raw).fifo ++ raws.map (justify s.params.adcRes s.width) := by
          rw [← hsame.1, ← hsame.2]
          exact ih (s.convStep raw)
      _ = dataWords s.fifo ++ (raw :: raws).map (justify s.params.adcRes s.width) := by
          rw [convStep_dataWords, List.append_assoc, List.singleton_append, List.map_cons]

/-- Conversions that are pending keep the invariant. -/
theorem State.WellBehaved.afterConversions {s : State} (h : s.WellBehaved) (hf : s.faulted = false) (hen : s.enabled = true)
    {raws : List Word} (hpend : raws.length ≤ s.pend.toNat) : (s.afterConversions raws).WellBehaved := by
  induction raws generalizing s with
  | nil => exact h
  | cons raw raws ih =>
    rw [List.length_cons] at hpend
    have hne : s.pend ≠ 0#3 := fun h0 => by simp [h0] at hpend
    have hleft : (s.convStep raw).pend.toNat = s.pend.toNat - 1 := by
      rw [convStep_pend, toNat_sub_one_of_ne_zero hne]
    have hkept := h.convStep ((convEnabled_iff s).mpr ⟨hen, hf, hne⟩) raw
    exact ih hkept (by rw [convStep_frame]; exact hf) (by rw [convStep_frame]; exact hen) (by omega)

/-- Conversions that are pending fill an empty wire with their justified words. -/
theorem State.WellBehaved.conversions_readable {s : State} (h : s.WellBehaved) (hf : s.faulted = false)
    (hen : s.enabled = true) (hfree : s.rdBusy = false) (hfifo : s.fifo = []) {raws : List Word}
    (hpend : raws.length ≤ s.pend.toNat) :
    (s.afterConversions raws).Readable (raws.map (justify s.params.adcRes s.width)) := by
  refine ⟨h.afterConversions hf hen hpend, ?_, ?_, ?_⟩
  · rw [afterConversions_frame]
    exact hf
  · rw [afterConversions_frame]
    exact hfree
  · rw [afterConversions_dataWords, hfifo, dataWords_nil, List.nil_append]

/-- From rest at a packet boundary, TRIGGERs and their conversions put the justified words on the wire (R115). -/
theorem State.WellBehaved.triggered_readable {s : State} (h : s.WellBehaved) (hf : s.faulted = false) (hen : s.enabled = true)
    (hfree : s.rdBusy = false) (hocc : s.occ = 0) (hpos : s.rdPos = 0#3) {raws : List Word} (hle : raws.length ≤ 5) :
    ((s.afterTriggers raws.length).afterConversions raws).Readable (raws.map (justify s.params.adcRes s.width)) ∧
      ((s.afterTriggers raws.length).afterConversions raws).config = s.config := by
  obtain ⟨hfifo, hpend⟩ := h.empty_of_occ_zero hocc hpos
  have htriggers := afterTriggers_of_room (n := raws.length) hf hen (by omega) h.trig_low
  have hkept := h.afterTriggers (n := raws.length) hf hen (by omega)
  have hqueued : (s.pend + BitVec.ofNat 3 raws.length).toNat = raws.length := by
    rw [hpend]
    bv_omega
  rw [htriggers] at hkept ⊢
  exact ⟨hkept.conversions_readable hf hen hfree hfifo hqueued.ge, by rw [afterConversions_frame]⟩

/-! ## The claims -/

/-- Settles O43: with a word on the wire READER has a step, and a second one behind a token. -/
theorem readyReadCompletesInTwoSteps : Obligations.ReadyReadCompletesInTwoSteps := by
  intro s h hfree hready
  obtain ⟨⟨hen, hf⟩, hdata⟩ : (s.enabled = true ∧ s.faulted = false) ∧ 0 < dataCount s.fifo := by
    simpa [State.dataReady] using hready
  obtain ⟨w, ws, hwords⟩ := List.exists_cons_of_length_pos (hdata.trans_eq (length_dataWords s.fifo).symm)
  obtain ⟨hnext, -, hvalid, -⟩ := (State.Readable.mk h hf hfree hwords).readToEnd
  refine ⟨?starts, ?completes, hvalid, hnext.unfaulted⟩
  case starts =>
    rw [after_read hf hen]
    refine (readerEnabled_iff _).mpr ⟨nofun, hf, fun hnil => ?_⟩
    simp [show s.fifo = [] from hnil] at hdata
  case completes =>
    obtain ⟨rest, -, hfifo | ⟨c, hfifo⟩⟩ := h.fifo_of_dataWords hwords
    · left
      rw [after_read_step_of_word hf hen hfifo]
    · right
      set t : State := { s.popTo (.ctrl c) (.data w :: rest) with rdPos := 0#3 }
      rw [State.afterReader, State.afterReader, State.afterReader, after_read_step_of_token hf hen hfifo,
        after_read_step_of_word (s := t) hf hen rfl, after_read (s := t) hf hen]
      exact ⟨(readerEnabled_iff _).mpr ⟨nofun, hf, nofun⟩, rfl⟩

/-- Settles O45: TRIGGERs and conversions leave the words on the wire, and the READs take them one by one. -/
theorem sequenceProperty : Obligations.SequenceProperty := by
  intro s raws h hen hf hfree hocc hpos
  refine ⟨?reads, ?five, afterTriggers_six_fault h hf hen hocc (h.empty_of_occ_zero hocc hpos).2⟩
  case reads =>
    intro hle t
    obtain ⟨hready, hconfig⟩ := h.triggered_readable hf hen hfree hocc hpos hle
    have hsamples := hready.readSamples
    rw [List.length_map, List.map_map, sampleValue_congr hconfig] at hsamples
    exact ⟨hsamples, hready.unfaulted, fun k hk => hready.afterReads (by rwa [List.length_map])⟩
  case five =>
    rw [afterTriggers_of_room hf hen (by omega) h.trig_low]
    exact hf

/-- Settles O54: RD_IDX is RD_POS, so the stream says which item is due; no legal FAULT has one of the two causes. -/
theorem readPacketMeetsDueItem : Obligations.ReadPacketMeetsDueItem := by
  intro s h hop
  have hidx := h.rdIdx_eq_rdPos hop
  refine ⟨fun c rest hfifo => ?token, fun w rest hfifo => ?word, fun s' hstep => ?step⟩
  case token => exact hidx ▸ (streamEnd_ctrl.mp (hfifo ▸ h.stream.1)).1
  case word => exact hidx ▸ (streamEnd_data.mp (hfifo ▸ h.stream.1)).1
  case step =>
    have hlegal : ∀ f ∈ legalFaultWords, f.extractLsb' 8 4 ≠ 0x9#4 ∧ f.extractLsb' 8 4 ≠ 0xA#4 := by
      simp [legalFaultWords, firstFaultWords]
    exact hlegal _ (stepKeepsWellBehaved s s' h hstep).fault.1

end Sys2Proof.Machine
end

section
/-! PROOF. READ_PACKET to its end (44_sample_reader.md R110, R111, R116, R117): by induction over the words of the packet, each
READER step stores the next word, and the token behind them ends the command. -/

namespace Sys2Proof.Machine

/-! ## A packet on the wire (10_state.md R36) -/

/-- A stream that holds the `n` words still due in a packet holds the token behind them, because it does not end on the S-th word. -/
theorem exists_packet_of_streamEnd {spp k : Nat} (hk : k < spp) (xs : List WireItem) (c n : Nat)
    (h : streamEnd spp c xs = some k) (hdue : c + n = spp) (hcount : n ≤ dataCount xs) :
    ∃ (words : List Word) (code : Byte) (rest : List WireItem),
      words.length = n ∧ xs = words.map WireItem.data ++ .ctrl code :: rest := by
  induction xs generalizing c n with
  | nil =>
    have hend : c = k := Option.some.inj h
    rw [dataCount_nil] at hcount
    omega
  | cons x xs ih =>
    cases x with
    | data w =>
      obtain ⟨hlt, hrest⟩ := streamEnd_data.mp h
      rw [dataCount_data] at hcount
      obtain ⟨words, code, rest, hlen, hxs⟩ := ih (c + 1) (n - 1) hrest (by omega) (by omega)
      exact ⟨w :: words, code, rest, by rw [List.length_cons]; omega, by rw [hxs]; rfl⟩
    | ctrl code =>
      obtain ⟨hend, -⟩ := streamEnd_ctrl.mp h
      obtain rfl : n = 0 := by omega
      exact ⟨[], code, xs, rfl, rfl⟩

/-- R36, R40: at a packet boundary S words on the wire are a whole packet. -/
theorem State.WellBehaved.exists_packet {s : State} (h : s.WellBehaved) (hen : s.enabled = true) (hpos : s.rdPos = 0#3)
    (hcount : s.spp ≤ dataCount s.fifo) :
    ∃ (words : List Word) (code : Byte) (rest : List WireItem),
      words.length = s.spp ∧ s.fifo = words.map WireItem.data ++ .ctrl code :: rest := by
  obtain ⟨hstream, hlt⟩ := h.stream
  rw [hpos] at hstream
  exact exists_packet_of_streamEnd (hlt hen) s.fifo 0 s.spp hstream (Nat.zero_add _) hcount

/-- A word of W bits is delivered as it is (R76, R108). -/
theorem sampleValue_of_lt {s : State} {w : Word} (hw : w.toNat < 2 ^ s.width) : s.sampleValue w = w := by
  apply BitVec.eq_of_toNat_eq
  rw [State.sampleValue, lowBits_toNat, Nat.mod_eq_of_lt hw, Nat.mod_eq_of_lt w.isLt]

/-- R76: the words on the wire fit W bits, so the reader delivers them as they are. -/
theorem State.WellBehaved.map_sampleValue {s : State} (h : s.WellBehaved) {words : List Word} {tail : List WireItem}
    (hfifo : s.fifo = words.map WireItem.data ++ tail) : words.map s.sampleValue = words := by
  refine (List.map_congr_left fun w hw => sampleValue_of_lt ?_).trans (List.map_id words)
  exact of_decide_eq_true (h.items (.data w) (hfifo ▸ List.mem_append_left tail (List.mem_map_of_mem hw)))

/-! ## What a packet leaves in PKT_BUF (10_state.md R43) -/

/-- PKT_BUF with the words `ws` stored from entry `i` on; `getElem_storeWords` says what each entry holds. -/
def storeWords (buf : Vector Word 5) (i : Nat) : List Word → Vector Word 5
  | [] => buf
  | w :: ws => storeWords (buf.setIfInBounds i w) (i + 1) ws

theorem getElem_storeWords (ws : List Word) (buf : Vector Word 5) (i : Nat) (j : Fin 5) :
    (storeWords buf i ws)[j] = if j.val < i then buf[j] else ws.getD (j.val - i) buf[j] := by
  induction ws generalizing buf i with
  | nil => simp [storeWords]
  | cons w ws ih =>
    have hset : (buf.setIfInBounds i w)[j] = if i = j.val then w else buf[j] := Vector.getElem_setIfInBounds j.isLt
    rw [storeWords, ih, hset]
    obtain hlt | rfl | hgt := Nat.lt_trichotomy j.val i
    · simp [hlt, Nat.lt_succ_of_lt hlt, hlt.ne']
    · simp
    · obtain ⟨d, hd⟩ := Nat.exists_eq_add_of_lt hgt
      have hnext : j.val - i = (j.val - (i + 1)) + 1 := by omega
      rw [if_neg (by omega), if_neg (by omega), if_neg (by omega), hnext, List.getD_cons_succ]

/-! ## The READER steps of a READ_PACKET (R111) -/

theorem afterReader_succ (s : State) (n : Nat) : s.afterReader (n + 1) = (s.afterReader n).readerStep := by
  induction n generalizing s with
  | zero => rfl
  | succ n ih => rw [State.afterReader, ih, ← State.afterReader]

theorem State.WellBehaved.afterReader {s : State} (h : s.WellBehaved) (n : Nat) : (s.afterReader n).WellBehaved := by
  induction n generalizing s with
  | zero => exact h
  | succ n ih => exact ih h.readerStep

/-- RD_IDX does not wrap while it counts the words of a packet. -/
theorem toNat_rdIdx_add {s : State} {n : Nat} (h : s.rdIdx.toNat + n ≤ s.spp) :
    (s.rdIdx + BitVec.ofNat 3 n).toNat = s.rdIdx.toNat + n := by
  have hspp : s.spp < 2 ^ 3 := BitVec.isLt _
  rw [BitVec.toNat_add, BitVec.toNat_ofNat, Nat.add_mod_mod, Nat.mod_eq_of_lt (by omega)]

section Packet
variable {s : State} {words : List Word} {code : Byte} {rest : List WireItem}

/-- As many READER steps as there are due words at the head store those words. -/
theorem afterReader_words {tail : List WireItem} (hop : s.rdOp = .readPacket) (hfifo : s.fifo = words.map WireItem.data ++ tail)
    (hdue : s.rdIdx.toNat + words.length ≤ s.spp) :
    ∃ history, s.afterReader words.length =
      { s with
        fifo := tail, pktBuf := storeWords s.pktBuf s.rdIdx.toNat (words.map s.sampleValue)
        rdIdx := s.rdIdx + BitVec.ofNat 3 words.length, rdPos := s.rdPos + BitVec.ofNat 3 words.length
        history := history } := by
  induction words generalizing s with
  | nil => exact ⟨s.history, by simp [State.afterReader, storeWords, ← show s.fifo = tail from hfifo]⟩
  | cons w words ih =>
    rw [List.length_cons] at hdue ⊢
    have hnext : (s.rdIdx + 1#3).toNat = s.rdIdx.toNat + 1 := toNat_rdIdx_add (n := 1) (by omega)
    have hstep : s.readerStep = s.takePacketWord w (words.map WireItem.data ++ tail) :=
      readerStep_packet_word hop hfifo (by omega)
    obtain ⟨history, hrest⟩ := ih (s := s.takePacketWord w (words.map WireItem.data ++ tail)) hop rfl
      (by rw [State.takePacketWord_rdIdx, hnext]; exact (by omega : s.rdIdx.toNat + 1 + words.length ≤ s.spp))
    refine ⟨history, ?_⟩
    rw [State.afterReader, hstep, hrest, State.takePacketWord_rdIdx, State.takePacketWord_rdPos, hnext,
      add_one_add_ofNat, add_one_add_ofNat]
    rfl

/-- None of the steps holds: the token is behind the words. -/
theorem afterReader_packet_enabled (hop : s.rdOp = .readPacket) (hf : s.faulted = false)
    (hfifo : s.fifo = words.map WireItem.data ++ .ctrl code :: rest) (hdue : s.rdIdx.toNat + words.length ≤ s.spp)
    {k : Nat} (hk : k ≤ words.length) : (s.afterReader k).readerEnabled = true := by
  have hsplit : s.fifo =
      (words.take k).map WireItem.data ++ ((words.drop k).map WireItem.data ++ .ctrl code :: rest) := by
    rw [hfifo, ← List.append_assoc, ← List.map_append, List.take_append_drop]
  have hlen : (words.take k).length = k := List.length_take_of_le hk
  obtain ⟨history, hsteps⟩ := afterReader_words hop hsplit (by omega)
  rw [hlen] at hsteps
  rw [hsteps]
  exact (readerEnabled_iff _).mpr ⟨by rw [hop]; nofun, hf, by simp⟩

/-- The step behind the S-th word takes the token and ends the command. -/
theorem afterReader_packet (hop : s.rdOp = .readPacket) (hfifo : s.fifo = words.map WireItem.data ++ .ctrl code :: rest)
    (hdue : s.rdIdx.toNat + words.length = s.spp) :
    ∃ history, s.afterReader (words.length + 1) =
      { s with
        fifo := rest, pktBuf := storeWords s.pktBuf s.rdIdx.toNat (words.map s.sampleValue)
        rdIdx := 0#3, rdPos := 0#3, rdBusy := false, rdOp := .none, history := history } := by
  obtain ⟨history, hsteps⟩ := afterReader_words hop hfifo hdue.le
  refine ⟨.pop (.ctrl code) :: history, ?_⟩
  rw [afterReader_succ, hsteps]
  refine readerStep_packet_trailer ?_ rfl ?_
  · exact hop
  · exact ((toNat_rdIdx_add hdue.le).trans hdue).ge

/-! ## READ_PACKET from its accepting step to its end (R110, R111) -/

theorem after_readPacket (hf : s.faulted = false) (hen : s.enabled = true) (hpos : s.rdPos = 0#3) :
    s.after .readPacket =
      { s with rdOp := .readPacket, rdWord := encode .readPacket, rdIdx := 0#3, rdBusy := true } := by
  rw [after_of_not_faulted hf, commandBody, readPacketBody_of_aligned hen hpos]

/-- A READ_PACKET that finds a whole packet never holds. -/
theorem readPacket_enabled (hf : s.faulted = false) (hen : s.enabled = true) (hpos : s.rdPos = 0#3)
    (hlen : words.length = s.spp) (hfifo : s.fifo = words.map WireItem.data ++ .ctrl code :: rest) {k : Nat} (hk : k ≤ s.spp) :
    ((s.after .readPacket).afterReader k).readerEnabled = true := by
  rw [after_readPacket hf hen hpos]
  exact afterReader_packet_enabled
    (s := { s with rdOp := .readPacket, rdWord := encode .readPacket, rdIdx := 0#3, rdBusy := true })
    rfl hf hfifo ((Nat.zero_add _).trans hlen).le (hlen ▸ hk)

/-- A READ_PACKET that finds a whole packet stores its words from PKT_BUF[0] on. -/
theorem readPacket_stores_packet (hf : s.faulted = false) (hen : s.enabled = true) (hpos : s.rdPos = 0#3)
    (hlen : words.length = s.spp) (hfifo : s.fifo = words.map WireItem.data ++ .ctrl code :: rest) :
    ∃ history, (s.after .readPacket).afterReader (s.spp + 1) =
      { s with
        fifo := rest, pktBuf := storeWords s.pktBuf 0 (words.map s.sampleValue), rdWord := encode .readPacket
        rdIdx := 0#3, rdPos := 0#3, rdBusy := false, rdOp := .none, history := history } := by
  rw [after_readPacket hf hen hpos, ← hlen]
  exact afterReader_packet (s := { s with rdOp := .readPacket, rdWord := encode .readPacket, rdIdx := 0#3, rdBusy := true })
    rfl hfifo ((Nat.zero_add _).trans hlen)

end Packet

/-- A READ_PACKET that finds exactly one packet empties the FIFO, which leaves both sides at a packet boundary (R116). -/
theorem State.Readable.readPacket {s : State} {ws : List Word} (h : s.Readable ws) (hen : s.enabled = true)
    (hpos : s.rdPos = 0#3) (hlen : ws.length = s.spp) :
    s.pktcnt = 0#3 ∧ ∃ history, (s.after .readPacket).afterReader (s.spp + 1) =
      { s with
        fifo := [], pktBuf := storeWords s.pktBuf 0 ws, rdWord := encode .readPacket
        rdIdx := 0#3, rdPos := 0#3, rdBusy := false, rdOp := .none, history := history } := by
  obtain ⟨hwb, hf, -, hdata⟩ := h
  obtain ⟨words, code, rest, hwlen, hfifo⟩ := hwb.exists_packet hen hpos (by rw [← length_dataWords, hdata, hlen])
  have hwords : words ++ dataWords rest = ws := by
    rw [← hdata, hfifo, dataWords_append, dataWords_map_data, dataWords_ctrl]
  have hnone : dataWords rest = [] := by
    have htotal := congrArg List.length hwords
    rw [List.length_append] at htotal
    exact List.eq_nil_of_length_eq_zero (by omega)
  obtain rfl : words = ws := by rw [← hwords, hnone, List.append_nil]
  obtain ⟨history, hend⟩ := readPacket_stores_packet hf hen hpos hwlen hfifo
  rw [hwb.map_sampleValue hfifo] at hend
  have hkept : ((s.after .readPacket).afterReader (s.spp + 1)).WellBehaved := by
    rw [after_of_not_faulted hf]
    exact (hwb.readPacketBody hf).afterReader _
  rw [hend] at hkept
  obtain rfl : rest = [] := hkept.fifo_eq_nil (by rw [← length_dataWords, hnone, List.length_nil]) rfl
  have hcount : 0 = s.pktcnt.toNat := Option.some.inj hkept.stream.1
  exact ⟨BitVec.eq_of_toNat_eq hcount.symm, history, hend⟩

/-! ## The pulses of a TRIGGER_PACKET (42_trigger.md R96 to R98) -/

/-- R37: an idle control port names no command. -/
theorem State.WellBehaved.ctrlOp_eq_none {s : State} (h : s.WellBehaved) (hfree : s.ctrlBusy = false) : s.ctrlOp = .none := by
  obtain ⟨-, hbusy, -⟩ := h.ctrlPort
  cases hop : s.ctrlOp with
  | none => rfl
  | triggerPacket => exact absurd (hfree.symm.trans (hbusy.mpr hop)) nofun

/-- From an idle control port a TRIGGER_PACKET and its steps leave what S TRIGGERs leave, and its word in CTRL_WORD. -/
theorem State.WellBehaved.triggerPacket_eq_triggers {s : State} (h : s.WellBehaved) (hf : s.faulted = false)
    (hen : s.enabled = true) (hfree : s.ctrlBusy = false) (hroom : s.occ + s.spp ≤ 5) :
    (s.after .triggerPacket).afterCtrlSeq s.spp = { s.afterTriggers s.spp with ctrlWord := 0x00000004#32 } := by
  rw [triggerPacketIssuesItsPulses s hf hen (h.spp_bounds hen).1 hroom, afterTriggers_of_room hf hen hroom h.trig_low]
  simp only [hfree, h.ctrlOp_eq_none hfree, h.tpRem_eq_zero hfree]

/-- CTRL_WORD is free while the control port is (R37). -/
theorem State.WellBehaved.withCtrlWord {s : State} (h : s.WellBehaved) (hen : s.enabled = true) (hfree : s.ctrlBusy = false)
    (w : Word) : ({ s with ctrlWord := w }).WellBehaved := by
  obtain ⟨hbusy, hop, hrem, -⟩ := h.ctrlPort
  exact { h with
    cleared := clearedWhileDisabled_of_enabled hen
    ctrlPort := ⟨hbusy, hop, hrem, fun hb => absurd (hfree.symm.trans hb) nofun⟩ }

/-- A TRIGGER_PACKET with room and its pulses keep the invariant. -/
theorem State.WellBehaved.triggerPacket_pulses {s : State} (h : s.WellBehaved) (hf : s.faulted = false)
    (hen : s.enabled = true) (hfree : s.ctrlBusy = false) (hroom : s.occ + s.spp ≤ 5) :
    ((s.after .triggerPacket).afterCtrlSeq s.spp).WellBehaved := by
  have htriggers := afterTriggers_of_room hf hen hroom h.trig_low
  rw [h.triggerPacket_eq_triggers hf hen hfree hroom]
  exact (h.afterTriggers hf hen hroom).withCtrlWord (by rw [htriggers]; exact hen) (by rw [htriggers]; exact hfree) _

/-- A justified word is delivered as it is: it fits W bits (R103, R108). -/
theorem deliveredValue_eq_justify (s : State) (raw : Word) : s.deliveredValue raw = justify s.params.adcRes s.width raw :=
  sampleValue_of_lt (justify_lt _ _ _)

/-- The state after a TRIGGER_PACKET, its pulses and the conversions of `raws`. -/
def State.afterPacket (s : State) (raws : List Word) : State :=
  ((s.after .triggerPacket).afterCtrlSeq s.spp).afterConversions raws

/-- What TRIGGER_PACKET and its conversions leave alone: the configuration and the reader's side. -/
theorem afterPacket_frame {s : State} (hf : s.faulted = false) (hen : s.enabled = true) (hpos : 1 ≤ s.spp)
    (hroom : s.occ + s.spp ≤ 5) (raws : List Word) :
    s.afterPacket raws =
      { s with
        chptr := (s.afterPacket raws).chptr, pktcnt := (s.afterPacket raws).pktcnt, pend := (s.afterPacket raws).pend
        fifo := (s.afterPacket raws).fifo, ctrlBusy := false, ctrlOp := .none, ctrlWord := 0x00000004#32, tpRem := 0#3
        pulseCount := s.pulseCount + BitVec.ofNat 32 s.spp, trig := false, history := (s.afterPacket raws).history } := by
  have hframe := afterConversions_frame ((s.after .triggerPacket).afterCtrlSeq s.spp) raws
  rw [← State.afterPacket] at hframe
  generalize s.afterPacket raws = q at hframe ⊢
  rwa [triggerPacketIssuesItsPulses s hf hen hpos hroom] at hframe

/-- From rest at a packet boundary they put the justified words on the wire (R116). -/
theorem State.WellBehaved.afterPacket_readable {s : State} (h : s.WellBehaved) (hf : s.faulted = false)
    (hen : s.enabled = true) (hctrl : s.ctrlBusy = false) (hfree : s.rdBusy = false) (hocc : s.occ = 0)
    (hpos : s.rdPos = 0#3) {raws : List Word} (hraws : raws.length = s.spp) :
    (s.afterPacket raws).Readable (raws.map s.deliveredValue) := by
  obtain ⟨hspp, hle⟩ := h.spp_bounds hen
  obtain ⟨hfifo, hpend⟩ := h.empty_of_occ_zero hocc hpos
  have hroom : s.occ + s.spp ≤ 5 := by omega
  have hkept := h.triggerPacket_pulses hf hen hctrl hroom
  have hqueued : (s.pend + BitVec.ofNat 3 s.spp).toNat = raws.length := by
    rw [hpend]
    bv_omega
  rw [triggerPacketIssuesItsPulses s hf hen hspp hroom] at hkept
  rw [State.afterPacket, triggerPacketIssuesItsPulses s hf hen hspp hroom,
    List.map_congr_left fun raw _ => deliveredValue_eq_justify s raw]
  exact hkept.conversions_readable hf hen hfree hfifo hqueued.ge

/-! ## The claims -/

/-- Settles O44: PKT_READY means a whole packet on the wire, whose words are of W bits. -/
theorem readyReadPacketCompletes : Obligations.ReadyReadPacketCompletes := by
  intro s h hfree hready
  obtain ⟨⟨⟨hen, hf⟩, hpos⟩, hcount⟩ :
      ((s.enabled = true ∧ s.faulted = false) ∧ s.rdPos = 0#3) ∧ s.spp ≤ dataCount s.fifo := by
    simpa [State.pktReady] using hready
  obtain ⟨words, c, rest, hlen, hfifo⟩ := h.exists_packet hen hpos hcount
  obtain ⟨history, hend⟩ := readPacket_stores_packet hf hen hpos hlen hfifo
  rw [h.map_sampleValue hfifo] at hend
  refine ⟨fun k => readPacket_enabled hf hen hpos hlen hfifo, ?_⟩
  rw [hend]
  exact ⟨rfl, hf, rfl, words, c, rest, hlen, hfifo, rfl, fun i => getElem_storeWords words s.pktBuf 0 i⟩

/-- Settles O46: the pulses and their conversions leave exactly one packet on the wire, and READ_PACKET takes all of it. -/
theorem packetIntegrity : Obligations.PacketIntegrity := by
  intro s raws h hen hf hctrl hfree hocc hpos _ hraws t u
  obtain ⟨hspp, hle⟩ := h.spp_bounds hen
  have hready := h.afterPacket_readable hf hen hctrl hfree hocc hpos hraws
  have hframe := afterPacket_frame hf hen hspp (by omega) raws
  have hu : u = ((s.afterPacket raws).after .readPacket).afterReader (s.spp + 1) := rfl
  clear_value u
  generalize s.afterPacket raws = q at hready hframe hu
  have hsame : q.spp = s.spp := by rw [hframe]; rfl
  obtain ⟨hcnt, history, hend⟩ := hready.readPacket (by rw [hframe]; exact hen) (by rw [hframe]; exact hpos)
    (by rw [List.length_map, hraws, hsame])
  rw [hsame, ← hu] at hend
  have hfaulted : u.faulted = false := by rw [hend]; exact hready.unfaulted
  rw [after_read hfaulted (by rw [hend, hframe]; exact hen), hend]
  refine ⟨fun i => ?_, rfl, rfl, hcnt, rfl, by rw [hframe], hready.unfaulted, rfl, Bool.and_false _⟩
  rw [show s.pktBuf = q.pktBuf by rw [hframe]]
  exact getElem_storeWords _ _ 0 i

end Sys2Proof.Machine
end

section
/-! PROOF. The consumer state machine (10_state.md R41, 44_sample_reader.md R114): the state is read off RD_POS and the occupancy, so
each move is what its step does to those two. -/

namespace Sys2Proof.Machine

/-! ## The three states (R41) -/

theorem rdState_eq_draining_iff {s : State} : s.rdState = .draining ↔ s.rdPos ≠ 0#3 := by
  unfold State.rdState
  split_ifs with hpos <;> simp [hpos]

theorem rdState_of_boundary {s : State} (hpos : s.rdPos = 0#3) :
    s.rdState = if 0 < s.occ then .awaitingSamples else .idle :=
  if_neg (not_not.mpr hpos)

theorem rdState_eq_idle_iff {s : State} : s.rdState = .idle ↔ s.rdPos = 0#3 ∧ s.occ = 0 := by
  unfold State.rdState
  split_ifs with hpos hocc
  · simp [hpos]
  · simp [hocc.ne']
  · simp [not_not.mp hpos, Nat.eq_zero_of_not_pos hocc]

/-! ## The moves (R114) -/

/-- A sampling pulse at rest makes the occupancy 1. -/
theorem queuePulse_rdState {s : State} (hidle : s.rdState = .idle) : s.queuePulse.rdState = .awaitingSamples := by
  obtain ⟨hpos, hocc⟩ := rdState_eq_idle_iff.mp hidle
  have hraised : s.queuePulse.occ = s.occ + 1 := queuePulse_occ (by omega)
  rw [rdState_of_boundary (s := s.queuePulse) hpos, if_pos (by omega)]

/-- A CTRL_SEQ step at rest is a sampling pulse, the last one or not. -/
theorem ctrlSeqStep_rdState {s : State} (hidle : s.rdState = .idle) : s.ctrlSeqStep.rdState = .awaitingSamples := by
  obtain ⟨-, hocc⟩ := rdState_eq_idle_iff.mp hidle
  obtain ⟨hfull, -⟩ | ⟨-, -, h⟩ | ⟨-, -, h⟩ := ctrlSeqStep_cases s
  · omega
  · rw [h]
    exact queuePulse_rdState (s := s.idlePort .ctrl) hidle
  · rw [h]
    exact queuePulse_rdState (s := { s with tpRem := s.tpRem - 1#3 }) hidle

section Moves
variable {s : State} {w : Word} {c : Byte} {rest : List WireItem}

/-- R40: a word at the head is due, so taking it leaves the boundary: RD_POS does not wrap. -/
theorem State.WellBehaved.rdPos_add_one_ne_zero (h : s.WellBehaved) (hfifo : s.fifo = .data w :: rest) :
    s.rdPos + 1#3 ≠ 0#3 := by
  obtain ⟨-, hle⟩ := h.spp_bounds (h.enabled_of_fifo hfifo)
  have hdue := (streamEnd_data.mp (hfifo ▸ h.stream.1)).1
  bv_omega

/-- R40: a token at the head is met at RD_POS = S. -/
theorem State.WellBehaved.rdPos_ne_zero_of_token (h : s.WellBehaved) (hfifo : s.fifo = .ctrl c :: rest) : s.rdPos ≠ 0#3 := by
  obtain ⟨-, hboundary, -⟩ := tokensFrameThePackets s h (h.enabled_of_fifo hfifo)
  exact fun hpos => hboundary hpos c rest hfifo

/-- A READER step with a word at the head takes it, in a READ or in a READ_PACKET. -/
theorem State.WellBehaved.readerStep_word_rdPos (h : s.WellBehaved) (hop : s.rdOp ≠ .none) (hfifo : s.fifo = .data w :: rest) :
    s.readerStep.rdPos = s.rdPos + 1#3 := by
  cases hop' : s.rdOp with
  | none => exact absurd hop' hop
  | read => rw [readerStep_read_word hop' hfifo, State.takeWord_rdPos]
  | readPacket =>
    obtain ⟨-, hdue, -⟩ := readPacketMeetsDueItem s h hop'
    rw [readerStep_packet_word hop' hfifo (hdue w rest hfifo), State.takePacketWord_rdPos]

/-- A READER step with a token at the head consumes it: the reader is at a boundary, and the occupancy is as it was. -/
theorem State.WellBehaved.readerStep_token (h : s.WellBehaved) (hop : s.rdOp ≠ .none) (hfifo : s.fifo = .ctrl c :: rest) :
    s.readerStep.rdPos = 0#3 ∧ s.readerStep.occ = s.occ := by
  have hocc : s.occ = dataCount rest + s.pend.toNat := by rw [State.occ, hfifo, dataCount_ctrl]
  rw [hocc]
  cases hop' : s.rdOp with
  | none => exact absurd hop' hop
  | read =>
    rw [readerStep_read_token hop' hfifo]
    exact ⟨rfl, rfl⟩
  | readPacket =>
    obtain ⟨hdue, -⟩ := readPacketMeetsDueItem s h hop'
    rw [readerStep_packet_trailer hop' hfifo (hdue c rest hfifo).ge]
    exact ⟨rfl, rfl⟩

/-- A TRY_READ that finds a word delivers it. -/
theorem after_tryRead_of_word {codes : List Byte} (hf : s.faulted = false) (hen : s.enabled = true)
    (hfifo : s.fifo = codes.map WireItem.ctrl ++ .data w :: rest) :
    (s.after .tryRead).rdPos = (if codes = [] then s.rdPos else 0#3) + 1#3 := by
  rw [State.after, (tryReadResult s codes hf hen).1 w rest hfifo, outcomeState]

/-- A TRY_READ that finds one token only absorbs it. -/
theorem after_tryRead_of_last_token (hf : s.faulted = false) (hen : s.enabled = true) (hfifo : s.fifo = [.ctrl c]) :
    (s.after .tryRead).rdPos = 0#3 ∧ (s.after .tryRead).occ = s.occ := by
  have hocc : s.occ = dataCount [] + s.pend.toNat := by rw [State.occ, hfifo, dataCount_ctrl]
  rw [hocc, State.after, (tryReadResult s [c] hf hen).2 hfifo, outcomeState]
  exact ⟨rfl, rfl⟩

end Moves

/-- ENABLE of an idle block returns to IDLE (R81, R114). -/
theorem programAndCalibrate_rdState (s : State) (word : Word) (ch : ChMask) :
    (s.programConfig word ch).calibrate.rdState = .idle := by
  rw [calibrate_eq]
  exact rdState_eq_idle_iff.mpr ⟨rfl, rfl⟩

/-- DISABLE_ALL returns to IDLE in every case (R87, R114). -/
theorem disableAll_rdState (s : State) : (commandBody .disableAll s).rdState = .idle := by
  obtain h | ⟨-, h⟩ := disableAll_cases s <;> rw [h] <;> exact rdState_eq_idle_iff.mpr ⟨rfl, rfl⟩

/-- Settles O47: each clause is one of the moves. -/
theorem consumerStateMoves : Obligations.ConsumerStateMoves := by
  intro s h hf
  refine ⟨fun hen hidle => ?trigger, fun _ hidle => ctrlSeqStep_rdState hidle, fun hen w rest hfifo => ?word,
    fun hen c rest hfifo => ?token, fun ch bps spp cal hv hidle => ?enable, ?disable⟩
  case trigger =>
    obtain ⟨-, hocc⟩ := rdState_eq_idle_iff.mp hidle
    rw [after_trigger_of_room hf hen (by omega)]
    exact queuePulse_rdState hidle
  case word =>
    have hne := h.rdPos_add_one_ne_zero hfifo
    refine ⟨fun hop => rdState_eq_draining_iff.mpr ?_, rdState_eq_draining_iff.mpr ?_⟩
    · rwa [h.readerStep_word_rdPos hop hfifo]
    · rwa [after_tryRead_of_word (codes := []) hf hen hfifo]
  case token =>
    refine ⟨rdState_eq_draining_iff.mpr (h.rdPos_ne_zero_of_token hfifo), fun hop => ?reader, fun hlast => ?absorbed,
      fun hmore => ?delivered⟩
    case reader =>
      obtain ⟨hpos, hocc⟩ := h.readerStep_token hop hfifo
      rw [rdState_of_boundary hpos, hocc]
    case absorbed =>
      subst hlast
      obtain ⟨hpos, hocc⟩ := after_tryRead_of_last_token hf hen hfifo
      rw [rdState_of_boundary hpos, hocc]
    case delivered =>
      obtain ⟨w, tail, rfl⟩ := h.word_behind_token hfifo hmore
      rw [rdState_eq_draining_iff, after_tryRead_of_word (codes := [c]) hf hen hfifo, if_neg (List.cons_ne_nil c [])]
      decide
  case enable =>
    rw [after_of_not_faulted hf, enable_of_idle hv hidle]
    exact programAndCalibrate_rdState s _ ch
  case disable =>
    rw [after_of_not_faulted hf]
    exact disableAll_rdState s

end Sys2Proof.Machine
end

section
/-! PROOF. Faults (60_exceptions.md R119 to R129): the fields fault entry writes, what a port does with a word while the block is
faulted, and from the list of what a step can do the three things a faulted block can do in a step other than a tile reset. -/

namespace Sys2Proof.Machine

/-! ## FAULT after fault entry (R119, R122) -/

/-- Fault entry clears the cause field, then places the code and the group bit in it (R45, R122). -/
theorem faultWord_eq (c : Cause) (old : Word) :
    faultWord c old =
      (old &&& ~~~placeField 4 8 0xF#4) ||| placeField 4 8 (causeCode c) ||| placeField 1 (causeGroup c) 1#1 := rfl

/-- The group bits are FAULT[4:0] (R45). -/
theorem causeGroup_lt (c : Cause) : causeGroup c < 5 := by
  cases c <;> decide

/-- FAULT.CAUSE is the cause's code, whatever it held before (R122). -/
theorem faultWord_cause (c : Cause) (old : Word) : (faultWord c old).extractLsb' 8 4 = causeCode c := by
  have hgroup := causeGroup_lt c
  have hclear : (~~~placeField 4 8 0xF#4).extractLsb' 8 4 = 0#4 := by decide
  rw [faultWord_eq, BitVec.extractLsb'_or, BitVec.extractLsb'_or, BitVec.extractLsb'_and, hclear, BitVec.and_zero,
    BitVec.zero_or, extractLsb'_placeField_self _ (by decide),
    extractLsb'_placeField_disjoint (n := 1) _ (.inr (by omega)), BitVec.or_zero]

/-- The group bit that fault entry places is one bit of the word. -/
theorem getLsbD_placeField_one {pos : Nat} (hfit : pos < 32) (k : Nat) :
    (placeField 1 pos 1#1).getLsbD k = decide (k = pos) := by
  by_cases hk : k = pos
  · subst hk
    rw [decide_eq_true rfl]
    exact getLsbD_placeField_flag true hfit
  · rw [decide_eq_false hk]
    exact getLsbD_placeField_disjoint _ (by omega)

/-- Outside FAULT.CAUSE the group bit is raised and no other bit changes (R122). -/
theorem faultWord_getLsbD (c : Cause) (old : Word) {k : Nat} (hk : k < 8 ∨ 12 ≤ k) :
    (faultWord c old).getLsbD k = (old.getLsbD k || decide (k = causeGroup c)) := by
  have hgroup := causeGroup_lt c
  have hkeep : (old &&& ~~~placeField 4 8 0xF#4).getLsbD k = old.getLsbD k := by
    rw [BitVec.getLsbD_and, BitVec.getLsbD_not, getLsbD_placeField_disjoint _ (by omega)]
    by_cases h32 : k < 32
    · simp [h32]
    · simp [BitVec.getLsbD_of_ge old k (by omega)]
  rw [faultWord_eq, BitVec.getLsbD_or, BitVec.getLsbD_or, hkeep, getLsbD_placeField_disjoint _ (by omega),
    getLsbD_placeField_one (by omega), Bool.or_false]

/-! ## Words accepted while faulted (R72, R73, R124) -/

/-- DISABLE_ALL is one word on one port (R68, R70). -/
theorem eq_of_decode_disableAll {p : Port} {v : Word} (h : decode p v = .ok .disableAll) : p = .ctrl ∧ v = 0x00000002#32 :=
  ⟨(portOf_of_decode h).symm, (encode_of_decode h).symm⟩

/-- While faulted a port drops every word but that of DISABLE_ALL, malformed or not (R72, R73). -/
theorem acceptWord_of_faulted {s : State} {p : Port} {v : Word} (hf : s.faulted = true)
    (hword : ¬(p = .ctrl ∧ v = 0x00000002#32)) :
    acceptWord p v s = .next ((s.record (.accept p v)).dropCommand p v) := by
  have hrec : (s.record (.accept p v)).faulted = true := hf
  cases hdec : decode p v with
  | error e => simp only [acceptWord, hdec, State.rejectWord, hrec, if_true]
  | ok i =>
    have hi : i ≠ .disableAll := by
      rintro rfl
      exact hword (eq_of_decode_disableAll hdec)
    rw [acceptWord_of_decode hdec, exec_of_ne_disableAll hi, portOf_of_decode hdec, encode_of_decode hdec,
      State.unlessFaulted, if_pos hrec]

/-! ## Steps of a faulted block (R124, R125) -/

/-- What a step of a faulted block can do other than a tile reset, with the environment's own part left as a free `e`: no agent
of the block has a step, so it holds, drops a word or powers down. -/
inductive FaultedStepEffect (s : State) : State → Prop where
  | hold (e : Env) : FaultedStepEffect s { s with env := e }
  | drop (e : Env) {g : HostAgent} {p : Port} {v : Word} {rest : List Access} (hword : Presents s g p v rest) (w : Word) :
      FaultedStepEffect s ((({ s with env := e }).record (.accept p v)).dropCommand p w)
  | powerDown (e : Env) {g : HostAgent} {rest : List Access} (hword : Presents s g .ctrl 0x00000002#32 rest) :
      FaultedStepEffect s (({ s with env := e }).record (.accept .ctrl 0x00000002#32)).powerDown

/-- CTRL_SEQ, CONV and READER ask for an unfaulted block, and of the commands only DISABLE_ALL runs while faulted (R124). -/
theorem faultedStepEffect_of_step {s s' : State} (hf : s.faulted = true) (hturn : s.nextTurn ≠ .tileReset)
    (hstep : step s = .next s') : FaultedStepEffect s s' := by
  cases stepEffect_of_step hstep with
  | reset e hreset => exact absurd hreset hturn
  | hold e => exact .hold e
  | ctrlSeq e _ hen => simp [State.ctrlSeqEnabled, hf] at hen
  | conv e raw _ hen => simp [State.convEnabled, hf] at hen
  | reader e _ hen => simp [State.readerEnabled, hf] at hen
  | drop e hword w _ => exact .drop e hword w
  | malformed e _ _ hunfaulted => exact absurd (hf.symm.trans hunfaulted) (by decide)
  | command e hword hdec hbody =>
    obtain hunfaulted | rfl := hbody
    · exact absurd (hf.symm.trans hunfaulted) (by decide)
    · obtain ⟨rfl, rfl⟩ := eq_of_decode_disableAll hdec
      have hexec : (({ s with env := e }).record (.accept .ctrl 0x00000002#32)).faulted = true := hf
      rw [disableAll_of_faulted_or_idle (.inl hexec)]
      exact .powerDown e hword

/-! ## Commands in mode DISABLED (R129) -/

/-- The sampling and reading commands raise SEQ_NOT_ENABLED in mode DISABLED, before anything else (R94, R96, R107, R110, R113). -/
theorem commandBody_of_disabled {s : State} (hen : s.enabled = false) {i : Instr}
    (hi : i ∈ [Instr.trigger, .triggerPacket, .read, .readPacket, .tryRead]) :
    commandBody i s = s.faultEnter .seqNotEnabled (encode i) := by
  have hdis : ¬s.enabled = true := by simp [hen]
  simp only [List.mem_cons, List.not_mem_nil, or_false] at hi
  obtain rfl | rfl | rfl | rfl | rfl := hi <;> exact if_neg hdis

/-! ## The claims -/

/-- Settles O17: the drop of `acceptWord_of_faulted`, written out. -/
theorem faultedDropsCommands : Obligations.FaultedDropsCommands :=
  fun _ _ _ hf hword => acceptWord_of_faulted hf hword

/-- Settles O18: a hold and the power-down leave FAULT as it is, and a drop raises only DROP. -/
theorem faultStaysUntilReset : Obligations.FaultStaysUntilReset := by
  intro s s' hf hturn hstep
  cases faultedStepEffect_of_step hf hturn hstep with
  | hold e => exact ⟨hf, rfl, .inl rfl⟩
  | drop e _ w => exact ⟨(dropCommand_faulted _ _ w).trans hf, rfl, .inr rfl⟩
  | powerDown e _ => exact ⟨hf, rfl, .inl rfl⟩

/-- Settles O19: a hold and a drop are of the first kind, the power-down is of the second. -/
theorem faultedBlockIsFrozen : Obligations.FaultedBlockIsFrozen := by
  intro s s' hf hturn hstep
  cases faultedStepEffect_of_step hf hturn hstep with
  | hold e => exact .inl ⟨rfl, .inl rfl⟩
  | drop e _ w => exact .inl ⟨rfl, .inr rfl⟩
  | powerDown e hword => exact .inr ⟨⟨_, _, hword.turn, hword.todo⟩, rfl⟩

/-- Settles O16: the rows are the graph of `causeCode` and `causeGroup`. -/
theorem faultEntryEffect : Obligations.FaultEntryEffect := by
  intro s word row hrow
  have htable : row.2 = (causeCode row.1, causeGroup row.1) := by
    revert row
    decide
  rw [htable]
  exact ⟨faultWord_cause row.1 s.fault, fun _ hk => faultWord_getLsbD row.1 s.fault hk, rfl⟩

/-- Settles O20: an unfaulted block executes the command, whose first check fails. -/
theorem commandsFaultWhileDisabled : Obligations.CommandsFaultWhileDisabled := by
  intro s hf hen i hi
  rw [exec_of_not_faulted hf, commandBody_of_disabled hen hi]

end Sys2Proof.Machine
end

section
/-! PROOF. Reset (70_reset_and_hazards.md R135, R136) and the end of a TRIGGER_PACKET (R140, 42_trigger.md R97): TP_REM counts the
pulses still to come, a CTRL_SEQ step takes one off, and any other step keeps it or ends the command. -/

namespace Sys2Proof.Machine

/-! ## Reset -/

/-- STATUS is 0 by its fields; the command and reserved registers are 0 in every state; the others read a field (R51, R136). -/
theorem reset_readRegister (r : Register) : State.reset.readRegister r = 0#32 := by
  cases r with
  | ctrlCmd | rdCmd | reserved => rfl
  | status => decide
  | config | fault | faultCmd | sample | pulseCount => rfl
  | pktBuf i => exact Vector.getElem_replicate i.isLt

/-- Settles O50: the registers by `reset_readRegister`, the rest by the values of the reset state. -/
theorem resetRegistersAndOutputs : Obligations.ResetRegistersAndOutputs :=
  ⟨fun k _ => reset_readRegister (registerAt k), rfl, rfl, rfl, rfl, rfl, rfl, rfl, rfl, rfl, rfl⟩

/-- Settles O51: the reset turn is `State.tileReset`, which takes only the parameters and the environment from the state before. -/
theorem tileResetClearsTheBlock : Obligations.TileResetClearsTheBlock := by
  intro s hturn
  refine ⟨_, step_of_tileReset hturn, ?_, rfl, rfl⟩
  rw [State.tileReset, State.consumeTurn_params]

/-! ## The pulses still to come (R37, R97) -/

/-- A TRIGGER_PACKET in progress has pulses to come. -/
theorem State.WellBehaved.tpRem_ne_zero {s : State} (h : s.WellBehaved) (hbusy : s.ctrlBusy = true) : s.tpRem ≠ 0#3 :=
  h.ctrlPort.1.mp hbusy

/-- A fault aborts the command (R122), so CTRL_SEQ has a step while one is in progress. -/
theorem State.WellBehaved.ctrlSeqEnabled {s : State} (h : s.WellBehaved) (hbusy : s.ctrlBusy = true) :
    s.agentEnabled .ctrlSeq = true := by
  obtain ⟨-, -, haborted⟩ := h.fault
  have hf : s.faulted = false := Bool.eq_false_iff.mpr fun hf => absurd ((haborted hf).1.symm.trans hbusy) nofun
  simp only [State.agentEnabled, State.ctrlSeqEnabled, hbusy, hf, Bool.not_false, Bool.and_self]

/-- A CTRL_SEQ step that does not end the command takes one pulse off TP_REM. -/
theorem ctrlSeqStep_tpRem {s : State} (hrem : s.tpRem ≠ 0#3) (hbusy : s.ctrlSeqStep.ctrlBusy = true) :
    s.ctrlSeqStep.tpRem.toNat + 1 = s.tpRem.toNat := by
  obtain ⟨-, h⟩ | ⟨-, -, h⟩ | ⟨-, -, h⟩ := ctrlSeqStep_cases s <;> rw [h] at hbusy ⊢
  · exact absurd hbusy nofun
  · exact absurd hbusy nofun
  · rw [queuePulse_frame]
    dsimp only
    bv_omega

/-- From `s` to `t` TP_REM is as it was, unless the command in progress has ended. -/
def State.KeepsPulses (s t : State) : Prop := t.tpRem = s.tpRem ∨ t.ctrlBusy = false

theorem faultEnter_keepsPulses (s : State) (c : Cause) (w : Word) : s.KeepsPulses (s.faultEnter c w) := .inr rfl

theorem readerStep_keepsPulses (s : State) : s.KeepsPulses s.readerStep := by
  obtain ⟨-, h⟩ | ⟨c, rest, -, -, h⟩ | ⟨w, rest, -, -, h⟩ | ⟨w, rest, -, -, h⟩ | ⟨c, rest, -, -, h⟩ :=
    readerStep_cases s <;> rw [h]
  · exact .inl rfl
  · exact .inl rfl
  · exact .inl rfl
  · split
    · exact .inl rfl
    · exact faultEnter_keepsPulses s _ _
  · split
    · exact faultEnter_keepsPulses s _ _
    · exact .inl rfl

/-- The commands of the reader port do not touch the control port, unless they fault (R107, R110, R113). -/
theorem commandBody_keepsPulses {i : Instr} (hport : portOf i = .rd) (s : State) : s.KeepsPulses (commandBody i s) := by
  cases i with
  | enable | disableAll | trigger | triggerPacket => exact absurd hport nofun
  | read =>
    rw [commandBody, State.readBody]
    split
    · exact .inl rfl
    · exact faultEnter_keepsPulses s _ _
  | readPacket =>
    rw [commandBody]
    obtain ⟨-, h⟩ | ⟨-, -, h⟩ | ⟨-, -, h⟩ := readPacketBody_cases s (encode .readPacket) <;> rw [h]
    · exact faultEnter_keepsPulses s _ _
    · exact faultEnter_keepsPulses s _ _
    · exact .inl rfl
  | tryRead =>
    rw [commandBody]
    obtain ⟨-, h⟩ | ⟨w, rest, -, -, h⟩ | ⟨-, -, h⟩ := tryReadBody_cases s (encode .tryRead) <;> rw [h]
    · exact faultEnter_keepsPulses s _ _
    · rw [absorbTokens_frame]
      exact .inl rfl
    · rw [absorbTokens_frame]
      exact .inl rfl

/-- While a command is in progress a step that is none of CTRL_SEQ's keeps TP_REM or ends it: the control port accepts no word
(R53). -/
theorem step_keepsPulses {s s' : State} (hstep : step s = .next s') (hbusy : s.ctrlBusy = true)
    (hother : ¬(s.nextTurn = .agent .ctrlSeq ∧ s.agentEnabled .ctrlSeq = true)) : s.KeepsPulses s' := by
  cases stepEffect_of_step hstep with
  | reset e => exact .inr rfl
  | hold e => exact .inl rfl
  | ctrlSeq e hturn hen => exact absurd ⟨hturn, hen⟩ hother
  | conv e raw =>
    rw [convStep_frame]
    exact .inl rfl
  | reader e => exact readerStep_keepsPulses { s with env := e }
  | drop e => exact .inl rfl
  | malformed e => exact .inr rfl
  | @command e g p v rest hword i hdec =>
    have hport : portOf i = .rd := by
      rw [portOf_of_decode hdec]
      cases p with
      | ctrl => exact absurd (hbusy.symm.trans hword.free) nofun
      | rd => rfl
    exact commandBody_keepsPulses hport (({ s with env := e }).record (.accept p v))

/-- The step of a run at which CTRL_SEQ steps is a CTRL_SEQ step. -/
theorem step_of_ctrlSeqEnabled {s : State} (hturn : s.nextTurn = .agent .ctrlSeq) (hen : s.agentEnabled .ctrlSeq = true) :
    ∃ e, step s = .next ({ s with env := e }).ctrlSeqStep := by
  have hen' : s.consumeTurn.agentEnabled .ctrlSeq = true := by
    rw [consumeTurn_eq]
    exact hen
  rw [step_eq, hturn, takeTurn, if_pos hen', agentStep, consumeTurn_eq]
  exact ⟨_, rfl⟩

/-- A step that does not end the command in progress takes a pulse off TP_REM exactly when it is CTRL_SEQ's. -/
theorem step_tpRem {s s' : State} (h : s.WellBehaved) (hstep : step s = .next s') (hbusy : s.ctrlBusy = true)
    (hbusy' : s'.ctrlBusy = true) :
    s'.tpRem.toNat + (if s.nextTurn = .agent .ctrlSeq ∧ s.agentEnabled .ctrlSeq = true then 1 else 0) = s.tpRem.toNat := by
  split
  · next hsteps =>
    obtain ⟨hturn, hen⟩ := hsteps
    obtain ⟨e, hnext⟩ := step_of_ctrlSeqEnabled hturn hen
    cases hstep.symm.trans hnext
    exact ctrlSeqStep_tpRem (s := { s with env := e }) (h.tpRem_ne_zero hbusy) hbusy'
  · next hother =>
    obtain hkept | hended := step_keepsPulses hstep hbusy hother
    · rw [hkept, Nat.add_zero]
    · exact absurd (hended.symm.trans hbusy') nofun

/-! ## Runs -/

/-- A run that is well-behaved at `n` stays so. -/
theorem IsRun.wellBehaved {r : Nat → State} (hrun : IsRun r) {n : Nat} (h : (r n).WellBehaved) (k : Nat) :
    (r (n + k)).WellBehaved := by
  induction k with
  | zero => exact h
  | succ k ih => exact stepKeepsWellBehaved _ _ ih (hrun (n + k))

/-- While the command is in progress, the CTRL_SEQ steps taken and the pulses still to come add up to those at the start. -/
theorem tpRem_add_stepCount {r : Nat → State} (hrun : IsRun r) {n : Nat} (h : (r n).WellBehaved) (k : Nat)
    (hbusy : ∀ j ≤ k, (r (n + j)).ctrlBusy = true) :
    (r (n + k)).tpRem.toNat + stepCount r .ctrlSeq n k = (r n).tpRem.toNat := by
  induction k with
  | zero => rfl
  | succ k ih =>
    have hbefore := ih fun j hj => hbusy j (by omega)
    have hlast := step_tpRem (hrun.wellBehaved h k) (hrun (n + k)) (hbusy k (Nat.le_succ k)) (hbusy (k + 1) le_rfl)
    rw [stepCount, ← Nat.add_assoc n k 1]
    omega

/-- Settles O58: were the command never to end, CTRL_SEQ would stay enabled and fairness would give it more steps than there were
pulses to come. -/
theorem fairTriggerPacketEnds : Obligations.FairTriggerPacketEnds := by
  intro r n hrun hfair hwell _
  by_contra! hnever
  have hbusy (k : Nat) : (r (n + k)).ctrlBusy = true := by simpa using hnever (n + k) (Nat.le_add_right n k)
  have hen (m : Nat) (hm : n ≤ m) : (r m).agentEnabled .ctrlSeq = true := by
    obtain ⟨k, rfl⟩ := Nat.exists_eq_add_of_le hm
    exact (hrun.wellBehaved hwell k).ctrlSeqEnabled (hbusy k)
  obtain ⟨k, hk⟩ := exists_le_stepCount hfair hen ((r n).tpRem.toNat + 1)
  have hsum := tpRem_add_stepCount hrun hwell k fun j _ => hbusy j
  omega

end Sys2Proof.Machine
end
